-- ==== Sys2Proof/Word.lean ====
section
/-! DEFINITION. The two word types of the hardware (00_scope.md R7, R8): a Byte of 8 bits and a Word of 16 bits.
Bit-field, byte-order and sign-extension helpers are in Machine/Bits.lean. -/

namespace Sys2Proof

/-- R8: "a Byte is an unsigned 8-bit value"; every assignment to one is taken modulo 256. -/
abbrev Byte := BitVec 8

/-- R8: a Word ("Short" in JB) is an unsigned 16-bit value; every assignment to one is taken modulo 65536. -/
abbrev Word := BitVec 16

end Sys2Proof
end

