-- ==== Sys2Proof/Machine/Bits.lean ====
section
/-! DEFINITION. Byte order, sign extension and single bits (00_scope.md R8, R9; 20_memory.md R75). -/

namespace Sys2Proof.Machine

/-- R8: `hi(w) = w[15:8]`. -/
def hiByte (w : Word) : Byte := w.extractLsb' 8 8

/-- R8: `lo(w) = w[7:0]`. -/
def loByte (w : Word) : Byte := w.extractLsb' 0 8

/-- R8: `h:l` is the Word `256*h + l`. -/
def joinBytes (h l : Byte) : Word := BitVec.ofNat 16 (256 * h.toNat + l.toNat)

/-- R9: `sext_8(v)`, as a Word to be added modulo 65536. -/
def signExtend8 (v : Byte) : Word := v.signExtend 16

/-- R8: `v[i]`. -/
def bitOf (v : Byte) (i : Nat) : Bool := v.getLsbD i

/-- `v` with bit `i` made `b`, the other bits as they were. -/
def putBit (v : Byte) (i : Nat) (b : Bool) : Byte :=
  if b then v ||| (1#8 <<< i) else v &&& ~~~(1#8 <<< i)

end Sys2Proof.Machine
end

