-- ==== Sys2Proof/Config.lean ====
section
/-! DEFINITION. The values the spec leaves open for this hardware (00_scope.md R6, 93_implementation_defined.md part 1):
each is an uninterpreted constant without a body, so nothing can be proved of what it is.
The parameters to which the spec does give a value (the periods, `DISABLED_RAM_READ`) are definitions in
Machine/Periods.lean and Machine/Bus.lean; the other parameters (the cartridge, `RTC_INIT`, `STAT_MODE`, the keys) are fields of State. -/

namespace Sys2Proof

/-- Free value (log 2; R42, R470, D5, I8: "any value"): byte `k` of Video RAM after the `n`-th reset, until it is written. -/
opaque Config.vramPowerOn : (n k : Nat) → Byte

/-- Free value (log 2; R42, R470, D5, I8): byte `k` of Work RAM after the `n`-th reset, until it is written. -/
opaque Config.wramPowerOn : (n k : Nat) → Byte

/-- Free value (log 2; R42, R470, D5, I8): byte `k` of OAM after the `n`-th reset, until it is written. -/
opaque Config.oamPowerOn : (n k : Nat) → Byte

/-- Free value (log 2; R40, R470, D50, I8): byte `k` of the CGB background palette memory after the `n`-th reset. -/
opaque Config.bgPalPowerOn : (n k : Nat) → Byte

/-- Free value (log 2; R40, R470, D50, I8): byte `k` of the CGB object palette memory after the `n`-th reset. -/
opaque Config.objPalPowerOn : (n k : Nat) → Byte

/-- Free value (log 3; R6 `SAVE_RAM`, D6, I9): byte `k` of the battery RAM as the host supplied it, until it is written. -/
opaque Config.saveRam : (k : Nat) → Byte

/-- Free value (log 4; R6 `WALLCLOCK`, R36): the first draw from the wall clock, in seconds. -/
opaque Config.wallClockStart : Nat

/-- Free value (log 4; R175): how many seconds lie between draw `n` and draw `n + 1` from the wall clock.
The draws are thereby an arbitrary non-decreasing sequence. -/
opaque Config.wallClockTick : (n : Nat) → Nat

end Sys2Proof
end

