-- ==== Sys2Proof/Machine/State.lean ====
section
/-! DEFINITION. The state of the machine (10_state.md), as plain data, its value at reset (70_reset_and_hazards.md R470),
and the reasons a step could stop (there are none that a meaning raises: 60_exceptions.md R400). -/

namespace Sys2Proof.Machine

/-- R20: the eight 8-bit cells and the two 16-bit registers. The pair views (R22) are functions of the cells. -/
structure Regs where
  a : Byte
  f : Byte
  b : Byte
  c : Byte
  d : Byte
  e : Byte
  h : Byte
  l : Byte
  sp : Word
  pc : Word
  deriving DecidableEq, Repr

/-- R33: the dispatcher states stored between iterations. `halted` is HaltedAwaitingInterrupt. -/
inductive Mode where
  | running
  | halted
  deriving DecidableEq, Repr

/-- R6, R154: the mapper families. `noMapper` is the family JB calls None. -/
inductive Mapper where
  | noMapper
  | mbc1
  | mbc2
  | mbc3
  | mbc5
  deriving DecidableEq, Repr

/-- R174: the MBC3 real-time-clock register set, `rtc[0..4]`. -/
structure RtcRegs where
  seconds : Byte
  minutes : Byte
  hours : Byte
  daysLo : Byte
  daysHi : Byte
  deriving DecidableEq, Repr

/-- R6, R114: the LCD modes {0, 2, 3} that the parameter `STAT_MODE` ranges over. -/
inductive VisibleMode where
  | mode0
  | mode2
  | mode3
  deriving DecidableEq, Repr

/-- R6, R114: one value of the parameter `STAT_MODE`: the mode at position `pos` of a line of `h` instructions. -/
structure StatCell where
  pos : Nat
  h : Nat
  mode : VisibleMode
  deriving DecidableEq, Repr

/-- R6, R114: the parameter `STAT_MODE` as plain data: its values where it differs from the default (log 7). -/
abbrev StatTable := List StatCell

/-- R6: the parameters fixed for a run that are neither bytes (`Mem.rom`) nor keys (`State.joypad`): the four that the header
gives, `RTC_INIT` and `STAT_MODE`. No step changes one (log 1). -/
structure Cart where
  mapper : Mapper
  romBanks : Nat
  ramBanks : Nat
  cgb : Bool
  rtcInit : RtcRegs
  statMode : StatTable
  deriving DecidableEq, Repr

/-- R36: the cartridge control state that mapper commands change. `ramMode` is true for large-RAM ("4/32") mode. -/
structure Mbc where
  currentBank : BitVec 9
  ramBank : BitVec 4
  ramEnabled : Bool
  ramMode : Bool
  deriving DecidableEq, Repr

/-- One memory: the cells written since reset, as (index, byte) pairs in canonical form (`Memory.wf`). -/
abbrev Memory := List Host.Cell

/-- R42, R40: the memories behind the bus. -/
inductive Region where
  | rom
  | cram
  | vram
  | wram
  | oam
  | io
  | bgPal
  | objPal
  deriving DecidableEq, Repr

/-- R42, R40: one memory for each `Region`. -/
structure Mem where
  rom : Memory
  cram : Memory
  vram : Memory
  wram : Memory
  oam : Memory
  io : Memory
  bgPal : Memory
  objPal : Memory
  deriving DecidableEq, Repr

/-- R425: the events the machine emits and no rule reads: `Report(kind, info)` and `notifyScanline(line)`. -/
inductive Event where
  /-- R366: `Report(IllegalOpcode, (address, byte))`. -/
  | illegalOpcode (address : Word) (opcode : Byte)
  /-- R73: `Report(OutOfRange, address)`. -/
  | outOfRange (address : Word)
  /-- R441: `notifyScanline(line)`. -/
  | scanline (line : Nat)
  deriving DecidableEq, Repr

/-- All the state of 10_state.md, the parameters a cartridge and a player bring (R6), and three fields of the model's
own: the two counters that index the free values of Config, and the trace of output events. -/
structure State where
  /-- R20, R45. -/
  regs : Regs
  /-- R31: `masterEnable`. -/
  ime : Bool
  /-- R32: the EI latency slot; 0, 1 or 2 in every reachable state. -/
  eiDelay : Nat
  /-- R33. -/
  mode : Mode
  /-- R38: the instruction counter, the sole time base. -/
  clock : Nat
  /-- R39: CGB double speed; read through `State.isDouble`. -/
  doubleSpeed : Bool
  /-- R6: parameters fixed by the cartridge. -/
  cart : Cart
  /-- R36. -/
  mbc : Mbc
  /-- R36, R174. -/
  rtc : RtcRegs
  /-- R36: the wall-clock value at the last RTC update. -/
  rtcAnchor : Nat
  /-- R40 (CGB). -/
  vramBank : BitVec 1
  /-- R40 (CGB). -/
  wramBank : BitVec 3
  /-- R40 (CGB): JB's HDMA "active" flag. -/
  hdmaActive : Bool
  /-- R42. -/
  mem : Mem
  /-- R6 `JOYPAD`: one bit per key, 1 = pressed; only the host changes it (log 6). -/
  joypad : Byte
  /-- The model's own (log 4): how many wall-clock draws have been made. -/
  wallDraws : Nat
  /-- The model's own (log 2): how many times the host has reset the machine since power-on. -/
  resets : Nat
  /-- R425: the output events so far, the newest first (log 12). -/
  out : List Event
  deriving DecidableEq, Repr

/-- R400: "This hardware raises no synchronous exception", and no behaviour is given the treatment `fault` or `stuck`
(93_implementation_defined.md, end of part 1). Nothing can raise a fault, so the type has no constructor; an outcome
`.fault` is thereby impossible (safe: the model never stops where the hardware goes on). -/
inductive Fault where
  deriving DecidableEq, Repr

/-- Why a step could be refused. -/
inductive Refusal where
  /-- Raised by an arm of `exec` whose instruction has no meaning yet (safe). No arm is left that raises it. -/
  | notModelled (mnemonic : String)
  deriving DecidableEq, Repr

/-- The outcome of an instruction or of a step. -/
abbrev Result := Host.Outcome State Fault Refusal

/-- R154, R470: the parameters of a cartridge whose image is all zero bytes: header 0x0143 = 0x0147 = 0x0148 = 0x0149 = 0,
that is no CGB, no mapper, two ROM banks, no RAM (the configuration 95_test_vectors.md starts from; log 1), with the defaults of
R6 for `RTC_INIT` (log 5) and `STAT_MODE` (log 7). -/
def Cart.blank : Cart where
  mapper := .noMapper
  romBanks := 2
  ramBanks := 0
  cgb := false
  rtcInit := ⟨0, 0, 0, 0, 0⟩
  statMode := []

/-- R45, R470: the register values after reset. -/
def Regs.reset (cgb : Bool) : Regs where
  a := if cgb then 0x11 else 0x01
  f := 0xB0
  b := 0x00
  c := 0x13
  d := 0x00
  e := 0xD8
  h := 0x01
  l := 0x4D
  sp := 0xFFFE
  pc := 0x0100

/-- R131, R470: the I/O cells that differ from what an unlisted I/O cell reads as (`Region.fixed`): only HDMA5 of a CGB. -/
def Mem.ioReset (cgb : Bool) : Memory := if cgb then [(0x55, 0xFF)] else []

/-- R470: the state after power-on with the cartridge `cart` whose image is `rom` and whose battery RAM holds `cram`. -/
def State.powerOn (cart : Cart) (rom cram : Memory) (joypad : Byte) : State where
  regs := Regs.reset cart.cgb
  ime := false
  eiDelay := 0
  mode := .running
  clock := 0
  doubleSpeed := false
  cart := cart
  mbc := { currentBank := 1, ramBank := 0, ramEnabled := false, ramMode := false }
  rtc := cart.rtcInit
  rtcAnchor := Config.wallClockStart
  vramBank := 0
  wramBank := 1
  hdmaActive := false
  mem :=
    { rom := rom, cram := cram, vram := [], wram := [], oam := [], io := Mem.ioReset cart.cgb, bgPal := [], objPal := [] }
  joypad := joypad
  wallDraws := 0
  resets := 0
  out := []

/-- R470: the machine right after reset, with the blank cartridge and no key pressed (log 1, log 6). -/
def State.reset : State := State.powerOn Cart.blank [] [] 0x00

end Sys2Proof.Machine
end

