-- ==== Sys2Proof/Machine/Memory.lean ====
section
/-! DEFINITION. Memories as lists of (index, byte) pairs in canonical form, what an unlisted cell reads as, and reading
and writing one cell of one memory (20_memory.md R80: a read returns the byte most recently written to the cell). -/

namespace Sys2Proof.Machine

/-- The byte listed for index `k`, if one is. -/
def Memory.lookup : Memory → Nat → Option Byte
  | [], _ => none
  | (i, b) :: m, k => if k = i then some b else Memory.lookup m k

/-- `m` with `b` listed at `k`, in its place in the rising order. -/
def Memory.insert : Memory → Nat → Byte → Memory
  | [], k, b => [(k, b)]
  | (i, c) :: m, k, b =>
    if k < i then (k, b) :: (i, c) :: m else if k = i then (k, b) :: m else (i, c) :: Memory.insert m k b

/-- `m` with nothing listed at `k`. -/
def Memory.erase (m : Memory) (k : Nat) : Memory := m.filter (fun c => c.1 != k)

/-- What an unlisted cell reads as where the spec fixes its content: a zero byte of the ROM image (log 1), and the I/O
file's reset values of R131. `none` is a cell that holds a free value until it is written (log 2, log 3). -/
def Region.fixed : Region → Nat → Option Byte
  | .rom, _ => some 0x00
  | .io, o =>
    if o = 0x40 then some 0x91 else if o = 0x47 then some 0xFC else if o = 0x48 then some 0xFF
    else if o = 0x49 then some 0xFF else some 0x00
  | _, _ => none

/-- The free value of an unlisted cell whose content the spec does not fix, after reset number `n`. -/
def Region.free (n : Nat) : Region → Nat → Byte
  | .cram, k => Config.saveRam k
  | .vram, k => Config.vramPowerOn n k
  | .wram, k => Config.wramPowerOn n k
  | .oam, k => Config.oamPowerOn n k
  | .bgPal, k => Config.bgPalPowerOn n k
  | .objPal, k => Config.objPalPowerOn n k
  | .rom, _ => 0x00
  | .io, _ => 0x00

/-- What an unlisted cell of a region reads as, the one definition of it. -/
def Region.unlisted (n : Nat) (r : Region) (k : Nat) : Byte := (r.fixed k).getD (r.free n k)

/-- A write keeps the canonical form: writing what an unlisted cell reads as removes the entry. -/
def Memory.write (r : Region) (m : Memory) (k : Nat) (b : Byte) : Memory :=
  if r.fixed k = some b then Memory.erase m k else Memory.insert m k b

/-- The canonical form: indices strictly rising, no entry equal to what the unlisted cell reads as. -/
def Memory.wf (r : Region) (m : Memory) : Bool :=
  decide (m.Pairwise (fun x y => x.1 < y.1)) && m.all (fun c => r.fixed c.1 != some c.2)

/-- The memory of a region. -/
def Mem.get (m : Mem) : Region → Memory
  | .rom => m.rom
  | .cram => m.cram
  | .vram => m.vram
  | .wram => m.wram
  | .oam => m.oam
  | .io => m.io
  | .bgPal => m.bgPal
  | .objPal => m.objPal

/-- `m` with the memory of region `r` replaced. -/
def Mem.put (m : Mem) (r : Region) (x : Memory) : Mem :=
  match r with
  | .rom => { m with rom := x }
  | .cram => { m with cram := x }
  | .vram => { m with vram := x }
  | .wram => { m with wram := x }
  | .oam => { m with oam := x }
  | .io => { m with io := x }
  | .bgPal => { m with bgPal := x }
  | .objPal => { m with objPal := x }

/-- All the memories are in canonical form. -/
def Mem.wf (m : Mem) : Bool :=
  Memory.wf .rom m.rom && Memory.wf .cram m.cram && Memory.wf .vram m.vram && Memory.wf .wram m.wram &&
    Memory.wf .oam m.oam && Memory.wf .io m.io && Memory.wf .bgPal m.bgPal && Memory.wf .objPal m.objPal

/-- Cell `k` of region `r`. -/
def readCell (s : State) (r : Region) (k : Nat) : Byte :=
  (Memory.lookup (s.mem.get r) k).getD (r.unlisted s.resets k)

/-- Store `b` in cell `k` of region `r`. -/
def writeCell (s : State) (r : Region) (k : Nat) (b : Byte) : State :=
  { s with mem := s.mem.put r (Memory.write r (s.mem.get r) k b) }

/-- `IO[o]`, the stored byte of an I/O cell (R35). -/
def readIo (s : State) (o : Nat) : Byte := readCell s .io o

/-- `IO[o] <- v`, the bare store into an I/O cell (R35). -/
def writeIo (s : State) (o : Nat) (v : Byte) : State := writeCell s .io o v

/-- R42: how many cells a region has; a step lists no cell beyond them. -/
def Region.size (cart : Cart) : Region → Nat
  | .rom => cart.romBanks * 16384
  | .cram => if cart.mapper = .mbc2 then 512 else cart.ramBanks * 8192
  | .vram => if cart.cgb then 16384 else 8192
  | .wram => if cart.cgb then 32768 else 8192
  | .oam => 160
  | .io => 256
  | .bgPal => 64
  | .objPal => 64

/-- R425: append an event to the output trace. -/
def report (s : State) (e : Event) : State := { s with out := e :: s.out }

end Sys2Proof.Machine
end

