-- ==== Sys2Proof/Machine/Cartridge.lean ====
section
/-! DEFINITION. The cartridge: construction from the header, mapper commands, the real-time clock (22_cartridge_mbc.md). -/

namespace Sys2Proof.Machine

/-- R155: why no machine can be constructed from a byte stream. No step of a machine raises one. -/
inductive LoadError where
  /-- R152: the ROM size byte has no table entry. -/
  | romSizeCode (code : Byte)
  /-- R153: the RAM size byte has no table entry. -/
  | ramSizeCode (code : Byte)
  /-- R154: the cartType byte has no table entry. -/
  | cartType (code : Byte)
  /-- R155: the stream's length is not `ROM_BANKS * 16384`. -/
  | streamLength (bytes banks : Nat)
  deriving DecidableEq, Repr

/-- R152: `ROM_BANKS` from the size code. -/
def romBanksOf (code : Byte) : Option Nat :=
  if code.toNat ≤ 7 then some (2 * 2 ^ code.toNat)
  else if code = 0x52 then some 72 else if code = 0x53 then some 80 else if code = 0x54 then some 96 else none

/-- R153: `RAM_BANKS` from the size code. -/
def ramBanksOf (code : Byte) : Option Nat :=
  match code.toNat with
  | 0 => some 0
  | 1 => some 1
  | 2 => some 1
  | 3 => some 4
  | 4 => some 16
  | _ => none

/-- R154: `MAPPER` from the cartType byte. -/
def mapperOf (code : Byte) : Option Mapper :=
  let n := code.toNat
  if n = 0x00 ∨ n = 0x08 ∨ n = 0x09 then some .noMapper
  else if 0x01 ≤ n ∧ n ≤ 0x03 then some .mbc1
  else if n = 0x05 ∨ n = 0x06 then some .mbc2
  else if 0x0F ≤ n ∧ n ≤ 0x13 then some .mbc3
  else if 0x19 ≤ n ∧ n ≤ 0x1E then some .mbc5
  else none

/-- R151, R6: the parameters that the four header bytes 0x0143, 0x0147, 0x0148, 0x0149 and the host give, or the load error. -/
def Cart.ofHeader (cgbFlag cartType romCode ramCode : Byte) (rtcInit : RtcRegs) (stat : StatTable) :
    Except LoadError Cart :=
  match romBanksOf romCode, ramBanksOf ramCode, mapperOf cartType with
  | some romBanks, some ramBanks, some mapper =>
    .ok { mapper := mapper, romBanks := romBanks, ramBanks := ramBanks, cgb := bitOf cgbFlag 7, rtcInit := rtcInit,
          statMode := stat }
  | none, _, _ => .error (.romSizeCode romCode)
  | _, none, _ => .error (.ramSizeCode ramCode)
  | _, _, none => .error (.cartType cartType)

/-- The image as a memory in canonical form: byte `i` of the stream at index `base + i`, zero bytes unlisted. -/
def Memory.ofBytes (base : Nat) : List Byte → Memory
  | [] => []
  | b :: bs => if b = 0x00 then Memory.ofBytes (base + 1) bs else (base, b) :: Memory.ofBytes (base + 1) bs

/-- R150, R155: the machine right after power-on with the cartridge a byte stream describes, or the load error.
`cram` is the parameter `SAVE_RAM` where the host supplies it (unlisted: a free byte, log 3).
DESIGN CHOICE (log 30): a header byte past the end of the stream reads as 0x00; only which load error R155 reports depends on
it. The order of the errors is log 27. -/
def loadCartridge (image : List Byte) (cram : Memory) (rtcInit : RtcRegs) (stat : StatTable) (joypad : Byte) :
    Except LoadError State :=
  let header := fun i => image.getD i 0x00
  match Cart.ofHeader (header 0x0143) (header 0x0147) (header 0x0148) (header 0x0149) rtcInit stat with
  | .error e => .error e
  | .ok cart =>
    if image.length = cart.romBanks * 16384 then .ok (State.powerOn cart (Memory.ofBytes 0 image) cram joypad)
    else .error (.streamLength image.length cart.romBanks)

/-- R158, R162, R164, R168: "(v & 0x0F) = 0x0A" opens the RAM gate, every other value closes it. -/
def ramGate (v : Byte) : Bool := v &&& 0x0F == 0x0A

/-- R172: the 0 -> 1 rule on a bank number. -/
def zeroToOne (n : BitVec 9) : BitVec 9 := if n = 0 then 1 else n

/-- R158 to R161: MBC1. -/
def mbc1Command (b : Mbc) (a : Word) (v : Byte) : Mbc :=
  let n := a.toNat
  if n < 0x2000 then { b with ramEnabled := ramGate v }
  else if n < 0x4000 then
    { b with currentBank := zeroToOne ((b.currentBank &&& 0x060) ||| (v &&& 0x1F).setWidth 9) }
  else if n < 0x6000 then
    if b.ramMode then { b with ramBank := (v &&& 0x03).setWidth 4 }
    else { b with currentBank := zeroToOne ((b.currentBank &&& 0x01F) ||| ((v &&& 0x03).setWidth 9 <<< 5)) }
  else { b with ramMode := bitOf v 0 }

/-- R162: MBC2; address bit 8 tells the two commands apart. -/
def mbc2Command (b : Mbc) (a : Word) (v : Byte) : Mbc :=
  let n := a.toNat
  if n < 0x2000 then if a.getLsbD 8 then b else { b with ramEnabled := ramGate v }
  else if n < 0x4000 then
    if a.getLsbD 8 then { b with currentBank := zeroToOne ((v &&& 0x1F).setWidth 9) } else b
  else b

/-- R164 to R167: MBC3. -/
def mbc3Command (b : Mbc) (a : Word) (v : Byte) : Mbc :=
  let n := a.toNat
  if n < 0x2000 then { b with ramEnabled := ramGate v }
  else if n < 0x4000 then { b with currentBank := zeroToOne ((v &&& 0x7F).setWidth 9) }
  else if n < 0x6000 then { b with ramBank := (v &&& 0x0F).setWidth 4 }
  else b

/-- R168, R169: MBC5; no 0 -> 1 (90_conflicts.md C3). -/
def mbc5Command (b : Mbc) (a : Word) (v : Byte) : Mbc :=
  let n := a.toNat
  if n < 0x2000 then { b with ramEnabled := ramGate v }
  else if n < 0x3000 then { b with currentBank := (b.currentBank &&& 0x100) ||| v.setWidth 9 }
  else if n < 0x4000 then { b with currentBank := (b.currentBank &&& 0x0FF) ||| ((v &&& 0x01).setWidth 9 <<< 8) }
  else if n < 0x6000 then { b with ramBank := (v &&& 0x07).setWidth 4 }
  else b

/-- R156, R157: `MbcWrite(a, v)` on the control fields, by family; None ignores every write. -/
def mbcCommand (m : Mapper) (b : Mbc) (a : Word) (v : Byte) : Mbc :=
  match m with
  | .noMapper => b
  | .mbc1 => mbc1Command b a v
  | .mbc2 => mbc2Command b a v
  | .mbc3 => mbc3Command b a v
  | .mbc5 => mbc5Command b a v

/-- R156: a write to 0x0000-0x7FFF changes nothing but the fields of R36. -/
def mbcWrite (s : State) (a : Word) (v : Byte) : State :=
  { s with mbc := mbcCommand s.cart.mapper s.mbc a v }

/-- R176: the carry chain of `RtcUpdate()` for `d` elapsed seconds. -/
def rtcCarry (r : RtcRegs) (d : Nat) : RtcRegs :=
  let sec := r.seconds.toNat + d
  let min := r.minutes.toNat + sec / 60
  let hour := r.hours.toNat + min / 60
  let days := (if bitOf r.daysHi 0 then 256 else 0) + r.daysLo.toNat + hour / 24
  let daysHi := putBit r.daysHi 0 (days.testBit 8)
  { seconds := BitVec.ofNat 8 (sec % 60)
    minutes := BitVec.ofNat 8 (min % 60)
    hours := BitVec.ofNat 8 (hour % 24)
    daysLo := BitVec.ofNat 8 days
    daysHi := if days > 511 then putBit daysHi 7 true else daysHi }

/-- R176: the registers advance unless the halt bit `rtc[4][6]` is set or no time has passed. -/
def rtcAdvance (r : RtcRegs) (d : Nat) : RtcRegs :=
  if bitOf r.daysHi 6 = false ∧ d > 0 then rtcCarry r d else r

/-- R175, R176: `RtcUpdate()`. The draw is `rtcAnchor` plus a free number of seconds (log 4). -/
def rtcUpdate (s : State) : State :=
  let d := Config.wallClockTick s.wallDraws
  { s with rtc := rtcAdvance s.rtc d, rtcAnchor := s.rtcAnchor + d, wallDraws := s.wallDraws + 1 }

/-- R166: `rtc[i]`. -/
def RtcRegs.read (r : RtcRegs) (i : Nat) : Byte :=
  match i with
  | 0 => r.seconds
  | 1 => r.minutes
  | 2 => r.hours
  | 3 => r.daysLo
  | _ => r.daysHi

/-- R177: `rtc[i] <- v`, all 8 bits. -/
def RtcRegs.write (r : RtcRegs) (i : Nat) (v : Byte) : RtcRegs :=
  match i with
  | 0 => { r with seconds := v }
  | 1 => { r with minutes := v }
  | 2 => { r with hours := v }
  | 3 => { r with daysLo := v }
  | _ => { r with daysHi := v }

end Sys2Proof.Machine
end

