-- ==== Sys2Proof/Machine/Periods.lean ====
section
/-! DEFINITION. The periods of the time base, counted in instructions (00_scope.md R6; 61_timing_driver.md). -/

namespace Sys2Proof.Machine

/-- R39: double speed exists only on a CGB; "it is constant 0 when CGB = false". -/
def State.isDouble (s : State) : Bool := s.cart.cgb && s.doubleSpeed

/-- R6, R431: `N_DIV`, instructions per DIV increment. -/
def nDiv (s : State) : Nat := if s.isDouble then 66 else 33

/-- R6, R436: `H_LINE`, instructions per scanline. -/
def hLine (s : State) : Nat := if s.isDouble then 120 else 60

/-- R6, D22: `INSTRS_PER_FRAME`, 154 scanlines of 60 instructions. -/
def instrsPerFrame : Nat := 9240

/-- R107: the frequency in Hz that the clock-select bits of TAC name, in the order JB lists them. -/
def timaFrequency (sel : Nat) : Nat :=
  match sel with
  | 0 => 4096
  | 1 => 262144
  | 2 => 65536
  | _ => 16384

/-- R6, R433: `M_TIMA(sel) = floor(60 * INSTRS_PER_FRAME / f(sel))`; not doubled in double speed (D51). -/
def mTima (sel : Nat) : Nat := 60 * instrsPerFrame / timaFrequency sel

/-- R114: the default of the parameter `STAT_MODE(pos, H)`. -/
def statModeDefault (pos h : Nat) : VisibleMode :=
  if 6 * pos < h then .mode2 else if 20 * pos < 11 * h then .mode3 else .mode0

/-- The mode that a table gives at position `pos` of a line of `h` instructions, if it gives one. -/
def StatTable.lookup : StatTable → (pos h : Nat) → Option VisibleMode
  | [], _, _ => none
  | c :: t, pos, h => if c.pos = pos ∧ c.h = h then some c.mode else StatTable.lookup t pos h

/-- R6, R114: `STAT_MODE(pos, H)`, the LCD mode at position `pos` of a line of `h` instructions: an open parameter, any
function to {0, 2, 3}, held as the values in which it differs from the default (log 7). -/
def statMode (t : StatTable) (pos h : Nat) : VisibleMode := (StatTable.lookup t pos h).getD (statModeDefault pos h)

/-- R114: the two mode bits. -/
def VisibleMode.bits : VisibleMode → Byte
  | .mode0 => 0
  | .mode2 => 2
  | .mode3 => 3

end Sys2Proof.Machine
end

