-- ==== Sys2Proof/Machine/Io.lean ====
section
/-! DEFINITION. Reading the I/O register file 0xFF00-0xFFFF (21_io_registers.md R101 and the rules it names).
Writing it is in Machine/Bus.lean, since a write may start a copy over the bus. -/

namespace Sys2Proof.Machine

/-- R103: the key nibble: a key of a selected group that is pressed clears its bit. -/
def keyNibble (select keys : Byte) : Byte :=
  let directions : Byte := if bitOf select 4 then 0x00 else keys &&& 0x0F
  let buttons : Byte := if bitOf select 5 then 0x00 else keys >>> 4
  0x0F &&& ~~~(directions ||| buttons)

/-- R103: reading offset 0x00. -/
def joypadRead (s : State) : Byte := 0xC0 ||| readIo s 0x00 ||| keyNibble (readIo s 0x00) s.joypad

/-- R114: the LCD mode. -/
def lcdMode (s : State) : Byte :=
  if (readIo s 0x44).toNat ≥ 144 then 1 else (statMode s.cart.statMode (s.clock % hLine s) (hLine s)).bits

/-- R113: LY equals LYC at the moment of the read. -/
def lyCoincidence (s : State) : Bool := readIo s 0x44 == readIo s 0x45

/-- R112: reading offset 0x41. -/
def statRead (s : State) : Byte :=
  (readIo s 0x41 &&& 0xF8) ||| (if lyCoincidence s then 0x04 else 0x00) ||| lcdMode s

/-- R125: the palette cell that an index register selects. -/
def paletteIndex (reg : Byte) : Nat := reg.toNat % 64

/-- R101: `IoRead(o)`; it never changes state. -/
def ioRead (s : State) (o : Byte) : Byte :=
  if o = 0x00 then joypadRead s
  else if o = 0x41 then statRead s
  else if s.cart.cgb = true ∧ o = 0x69 then readCell s .bgPal (paletteIndex (readIo s 0x68))
  else if s.cart.cgb = true ∧ o = 0x6B then readCell s .objPal (paletteIndex (readIo s 0x6A))
  else readIo s o.toNat

end Sys2Proof.Machine
end

