-- ==== Sys2Proof/Machine/Bus.lean ====
section
/-! DEFINITION. The memory bus: `BusRead` and `BusWrite` (20_memory.md), with the OAM DMA and HDMA copies that an I/O
write starts (21_io_registers.md). Both are total: "No bus access ever faults, traps or stops the machine" (R73). -/

namespace Sys2Proof.Machine

/-- R6, R170, D47, I1: `DISABLED_RAM_READ` (log 8). -/
def disabledRamRead : Byte := 0xFF

/-- What an address resolves to, after routing (R61, R62, R80). -/
inductive Place where
  /-- A byte cell of a memory. -/
  | cell (r : Region) (k : Nat)
  /-- R170: a 4-bit cell of the MBC2 RAM. -/
  | nibble (k : Nat)
  /-- R170: RTC register `i` of an MBC3. -/
  | rtc (i : Nat)
  /-- R67: cartridge RAM while `ramEnabled` is false. -/
  | disabled
  /-- R73: outside a populated region. -/
  | outOfRange
  /-- R71: 0xFEA0-0xFEFF. -/
  | unmapped
  /-- R72: offset `o` of the I/O register file. -/
  | io (o : Byte)
  deriving DecidableEq, Repr

/-- R66: the VRAM bank in effect; "vramBank is 0 when CGB = false". -/
def vramBankOf (s : State) : Nat := if s.cart.cgb then s.vramBank.toNat else 0

/-- R68: the Work RAM bank at 0xD000; "when CGB = false, wramBank is the constant 1". -/
def wramBankOf (s : State) : Nat := if s.cart.cgb then s.wramBank.toNat else 1

/-- R64: offset `n` (an address of 0x4000-0x7FFF) of the switchable ROM window. -/
def romWindow (s : State) (n : Nat) : Place :=
  let i := s.mbc.currentBank.toNat * 0x4000 + (n - 0x4000)
  if i < s.cart.romBanks * 16384 then .cell .rom i else .outOfRange

/-- R170: a byte of cartridge RAM, if the header declares so much. -/
def cramCell (s : State) (i : Nat) : Place :=
  if i < s.cart.ramBanks * 8192 then .cell .cram i else .outOfRange

/-- R170: what an address `n` of 0xA000-0xBFFF resolves to, by mapper family. -/
def cartRamPlace (s : State) (n : Nat) : Place :=
  let off := n - 0xA000
  let banked := cramCell s (s.mbc.ramBank.toNat * 0x2000 + off)
  match s.cart.mapper with
  | .noMapper => cramCell s off
  | .mbc1 => if s.mbc.ramEnabled then banked else .disabled
  | .mbc5 => if s.mbc.ramEnabled then banked else .disabled
  | .mbc2 => if s.mbc.ramEnabled then (if n ≤ 0xA1FF then .nibble off else .outOfRange) else .disabled
  | .mbc3 =>
    if s.mbc.ramEnabled then
      if s.mbc.ramBank.toNat ≤ 3 then banked
      else if 8 ≤ s.mbc.ramBank.toNat ∧ s.mbc.ramBank.toNat ≤ 12 then .rtc (s.mbc.ramBank.toNat - 8)
      else .outOfRange
    else .disabled

/-- R68: Work RAM at offset `n` from 0xC000. -/
def wramPlace (s : State) (n : Nat) : Place :=
  if n < 0x1000 then .cell .wram n else .cell .wram (wramBankOf s * 0x1000 + (n - 0x1000))

/-- R61 (90_conflicts.md C5): the address router, by the full ranges of the table. -/
def route (s : State) (a : Word) : Place :=
  let n := a.toNat
  if n < 0x4000 then .cell .rom n
  else if n < 0x8000 then romWindow s n
  else if n < 0xA000 then .cell .vram (vramBankOf s * 0x2000 + (n - 0x8000))
  else if n < 0xC000 then cartRamPlace s n
  else if n < 0xE000 then wramPlace s (n - 0xC000)
  else if n < 0xFE00 then wramPlace s (n - 0xE000)
  else if n < 0xFEA0 then .cell .oam (n - 0xFE00)
  else if n < 0xFF00 then .unmapped
  else .io (BitVec.ofNat 8 n)

/-- R61: `BusRead(a)`: the byte, and the state after the read's side effects (R78: only an RTC access has one; R73: an
access outside a populated region is reported). -/
def busRead (s : State) (a : Word) : Byte × State :=
  match route s a with
  | .cell r k => (readCell s r k, s)
  | .nibble k => (0xF0 ||| readCell s .cram k, s)
  | .rtc i => ((rtcUpdate s).rtc.read i, rtcUpdate s)
  | .disabled => (disabledRamRead, s)
  | .outOfRange => (0xFF, report s (.outOfRange a))
  | .unmapped => (0xFF, s)
  | .io o => (ioRead s o, s)

/-- R119: `OAM[i] <- BusRead(src + i)` for the `n` indices from `i` on, in ascending order. -/
def oamCopy (src : Word) : (n i : Nat) → State → State
  | 0, _, s => s
  | n + 1, i, s =>
    let p := busRead s (src + BitVec.ofNat 16 i)
    oamCopy src n (i + 1) (writeCell p.2 .oam i p.1)

/-- R119: the OAM DMA transfer from `256 * v`. -/
def oamDma (s : State) (v : Byte) : State := oamCopy (joinBytes v 0x00) 160 0 s

/-- R123: the HDMA source address that offsets 0x51 and 0x52 hold. -/
def hdmaSrc (s : State) : Word := joinBytes (readIo s 0x51) (readIo s 0x52) &&& 0xFFF0

/-- R123: the HDMA destination address that offsets 0x53 and 0x54 hold, inside 0x8000-0x9FFF. -/
def hdmaDst (s : State) : Word := 0x8000 + (joinBytes (readIo s 0x53) (readIo s 0x54) &&& 0x1FF0)

/-- R123: `BusWrite(dst + i, BusRead(src + i))` for the `n` indices from `i` on. The destination is always Video RAM,
so the store is that of R66 (log 23). -/
def vramCopy (src dst : Word) : (n i : Nat) → State → State
  | 0, _, s => s
  | n + 1, i, s =>
    let p := busRead s (src + BitVec.ofNat 16 i)
    let k := vramBankOf p.2 * 0x2000 + ((dst + BitVec.ofNat 16 i).toNat - 0x8000)
    vramCopy src dst n (i + 1) (writeCell p.2 .vram k p.1)

/-- R123: the write-back of the advanced source and destination into offsets 0x51-0x54, the destination wrapping inside
0x8000-0x9FFF. -/
def hdmaWriteBack (s : State) (src dst : Word) : State :=
  let src' := src + 16
  let dst' := 0x8000 + ((dst + 16) &&& 0x1FF0)
  writeIo (writeIo (writeIo (writeIo s 0x51 (hiByte src')) 0x52 (loByte src')) 0x53 (hiByte dst')) 0x54 (loByte dst')

/-- R123: `HdmaBlock()`, 16 bytes. -/
def hdmaBlock (s : State) : State := hdmaWriteBack (vramCopy (hdmaSrc s) (hdmaDst s) 16 0 s) (hdmaSrc s) (hdmaDst s)

/-- R123: `n` block copies, one after the other. -/
def hdmaBlocks : (n : Nat) → State → State
  | 0, s => s
  | n + 1, s => hdmaBlocks n (hdmaBlock s)

/-- R123: `IoWrite(0x55, v)` of a CGB: cancel, start a per-scanline transfer, or do a general transfer. -/
def hdmaControl (s : State) (v : Byte) : State :=
  if s.hdmaActive = true ∧ bitOf v 7 = false then
    writeIo { s with hdmaActive := false } 0x55 (readIo s 0x55 ||| 0x80)
  else if bitOf v 7 then writeIo { s with hdmaActive := true } 0x55 (v &&& 0x7F)
  else writeIo (hdmaBlocks (v.toNat % 128 + 1) s) 0x55 0xFF

/-- R125: the index register after a write of its data port: bit 7 asks for auto-increment. -/
def paletteNext (reg : Byte) : Byte := if bitOf reg 7 then 0x80 ||| ((reg + 1) &&& 0x3F) else reg

/-- R125: a write of the data port of the palette memory `r` whose index register is at offset `o`. -/
def paletteWrite (s : State) (r : Region) (o : Nat) (v : Byte) : State :=
  writeIo (writeCell s r (paletteIndex (readIo s o)) v) o (paletteNext (readIo s o))

/-- R122, R123, R125, R127: `IoWrite(o, v)` at the offsets that only a CGB treats specially. -/
def cgbIoWrite (s : State) (o v : Byte) : State :=
  match o.toNat with
  | 0x4D => writeIo s 0x4D ((readIo s 0x4D &&& 0x80) ||| (v &&& 0x01))
  | 0x4F => { writeIo s 0x4F v with vramBank := v.setWidth 1 }
  | 0x55 => hdmaControl s v
  | 0x69 => paletteWrite s .bgPal 0x68 v
  | 0x6B => paletteWrite s .objPal 0x6A v
  | 0x70 => { writeIo s 0x70 v with wramBank := if v &&& 0x07 = 0 then 1 else v.setWidth 3 }
  | n => writeIo s n v

/-- R100, R102: `IoWrite(o, v)`. -/
def ioWrite (s : State) (o v : Byte) : State :=
  match o.toNat with
  | 0x00 => writeIo s 0x00 (v &&& 0x30)
  | 0x04 => writeIo s 0x04 0x00
  | 0x44 => s
  | 0x46 => oamDma (writeIo s 0x46 v) v
  | n => if s.cart.cgb then cgbIoWrite s o v else writeIo s n v

/-- R62: `BusWrite(a, v)` at an address from 0x8000 on, by what the address resolves to. -/
def placeWrite (s : State) (a : Word) (v : Byte) : Place → State
  | .cell r k => writeCell s r k v
  | .nibble k => writeCell s .cram k (v &&& 0x0F)
  | .rtc i => { rtcUpdate s with rtc := (rtcUpdate s).rtc.write i v }
  | .disabled => s
  | .outOfRange => report s (.outOfRange a)
  | .unmapped => s
  | .io o => ioWrite s o v

/-- R62: `BusWrite(a, v)`. A write below 0x8000 is a mapper command and stores nothing (R65). -/
def busWrite (s : State) (a : Word) (v : Byte) : State :=
  if a.toNat < 0x8000 then mbcWrite s a v else placeWrite s a v (route s a)

/-- R9: `MemWrite(a, 2, w)`: low byte at `a`, then high byte at `a + 1`. -/
def busWrite16 (s : State) (a w : Word) : State := busWrite (busWrite s a (loByte w)) (a + 1) (hiByte w)

end Sys2Proof.Machine
end

