-- ==== Sys2Proof/Machine/Flags.lean ====
section
/-! DEFINITION. The ALU functions and their flags (40_alu_helpers.md R230 to R250). Each returns the result byte or word
and the four flags it produces; a flag a function does not produce (written `-` in the spec) is `none`. -/

namespace Sys2Proof.Machine

/-- The flag part `(z, n, h, c)` of a result tuple of 40_alu_helpers.md. -/
structure FlagOut where
  z : Option Bool
  n : Option Bool
  h : Option Bool
  c : Option Bool
  deriving DecidableEq, Repr

/-- R28: the flag bits of F: `Z = F[7]`, `N = F[6]`, `HF = F[5]`, `CY = F[4]`. -/
def zFlag (f : Byte) : Bool := bitOf f 7

/-- R28: `N = F[6]`. -/
def nFlag (f : Byte) : Bool := bitOf f 6

/-- R28: `HF = F[5]`. -/
def hFlag (f : Byte) : Bool := bitOf f 5

/-- R28: `CY = F[4]`. -/
def cFlag (f : Byte) : Bool := bitOf f 4

/-- One position of "flags from" (R250): `none` leaves the bit unchanged. -/
def putFlag (f : Byte) (i : Nat) : Option Bool → Byte
  | none => f
  | some b => putBit f i b

/-- R250: `Z <- z; N <- n; HF <- h; CY <- c` for each position that is produced; every other bit of F stays. -/
def writeFlags (f : Byte) (o : FlagOut) : Byte :=
  putFlag (putFlag (putFlag (putFlag f 7 o.z) 6 o.n) 5 o.h) 4 o.c

/-- R230: `ADD8(a, b, cin)`. -/
def add8 (a b : Byte) (cin : Bool) : Byte × FlagOut :=
  let s := a.toNat + b.toNat + cin.toNat
  let r := BitVec.ofNat 8 s
  (r, ⟨some (r == 0), some false, some (decide (a.toNat % 16 + b.toNat % 16 + cin.toNat > 0xF)), some (decide (s > 0xFF))⟩)

/-- R231: `SUB8(a, b, cin)`; Z by D7. -/
def sub8 (a b : Byte) (cin : Bool) : Byte × FlagOut :=
  let r := a - b - BitVec.ofNat 8 cin.toNat
  (r, ⟨some (r == 0), some true, some (decide (a.toNat % 16 < b.toNat % 16 + cin.toNat)),
    some (decide (a.toNat < b.toNat + cin.toNat))⟩)

/-- R232: `AND8(a, b)`; half-carry set. -/
def and8 (a b : Byte) : Byte × FlagOut :=
  (a &&& b, ⟨some (a &&& b == 0), some false, some true, some false⟩)

/-- R233: `OR8(a, b)`. -/
def or8 (a b : Byte) : Byte × FlagOut :=
  (a ||| b, ⟨some (a ||| b == 0), some false, some false, some false⟩)

/-- R234: `XOR8(a, b)`. -/
def xor8 (a b : Byte) : Byte × FlagOut :=
  (a ^^^ b, ⟨some (a ^^^ b == 0), some false, some false, some false⟩)

/-- R235: `INC8(a)`; carry preserved. -/
def inc8 (a : Byte) : Byte × FlagOut :=
  (a + 1, ⟨some (a + 1 == 0), some false, some (a &&& 0x0F == 0x0F), none⟩)

/-- R236: `DEC8(a)`; carry preserved. -/
def dec8 (a : Byte) : Byte × FlagOut :=
  (a - 1, ⟨some (a - 1 == 0), some true, some (a &&& 0x0F == 0), none⟩)

/-- R237 (with 90_conflicts.md C4): `ADD16(a, b)`; Z and N are not produced. -/
def add16 (a b : Word) : Word × FlagOut :=
  (a + b, ⟨none, none, some (decide (a.toNat % 0x1000 + b.toNat % 0x1000 > 0xFFF)), some (decide (a.toNat + b.toNat > 0xFFFF))⟩)

/-- R238: `ADDSP(sp, b)`; both carries are those of the unsigned addition of the low byte of sp and the raw byte. -/
def addSp (sp : Word) (b : Byte) : Word × FlagOut :=
  (sp + signExtend8 b,
    ⟨some false, some false, some (decide (sp.toNat % 16 + b.toNat % 16 > 0xF)), some (decide (sp.toNat % 256 + b.toNat > 0xFF))⟩)

/-- R239, the add branch: the adjustment is made on the value of `a` before any adjustment. -/
def daaAfterAdd (a : Byte) (h c : Bool) : Byte × Bool :=
  let low : Byte := if h || decide (a.toNat % 16 > 9) then 0x06 else 0x00
  let carry := c || decide (a.toNat > 0x99)
  let high : Byte := if carry then 0x60 else 0x00
  (a + (low ||| high), carry)

/-- R239, the subtract branch: the carry is kept. -/
def daaAfterSub (a : Byte) (h c : Bool) : Byte × Bool :=
  let low : Byte := if h then 0x06 else 0x00
  let high : Byte := if c then 0x60 else 0x00
  (a - (low ||| high), c)

/-- R239: `DAA8(a, n, h, c)`; HF becomes 0, N is not written. -/
def daa8 (a : Byte) (n h c : Bool) : Byte × FlagOut :=
  let p := if n then daaAfterSub a h c else daaAfterAdd a h c
  (p.1, ⟨some (p.1 == 0), none, some false, some p.2⟩)

/-- R240 to R247: `(r, z, 0, 0, c)` with `z = (r = 0)`. -/
def shiftOut (r : Byte) (c : Bool) : Byte × FlagOut :=
  (r, ⟨some (r == 0), some false, some false, some c⟩)

/-- R240: rotate left circular. -/
def rlc8 (v : Byte) : Byte × FlagOut := shiftOut ((v <<< 1) ||| (v >>> 7)) (bitOf v 7)

/-- R241: rotate right circular. -/
def rrc8 (v : Byte) : Byte × FlagOut := shiftOut ((v >>> 1) ||| (v <<< 7)) (bitOf v 0)

/-- R242: rotate left through carry. -/
def rl8 (v : Byte) (cin : Bool) : Byte × FlagOut := shiftOut (putBit (v <<< 1) 0 cin) (bitOf v 7)

/-- R243: rotate right through carry. -/
def rr8 (v : Byte) (cin : Bool) : Byte × FlagOut := shiftOut (putBit (v >>> 1) 7 cin) (bitOf v 0)

/-- R244: shift left arithmetic. -/
def sla8 (v : Byte) : Byte × FlagOut := shiftOut (v <<< 1) (bitOf v 7)

/-- R245: shift right arithmetic; bit 7 keeps its value. -/
def sra8 (v : Byte) : Byte × FlagOut := shiftOut ((v >>> 1) ||| (v &&& 0x80)) (bitOf v 0)

/-- R246: shift right logical. -/
def srl8 (v : Byte) : Byte × FlagOut := shiftOut (v >>> 1) (bitOf v 0)

/-- R247: exchange the nibbles; carry cleared. -/
def swap8 (v : Byte) : Byte × FlagOut := shiftOut ((v <<< 4) ||| (v >>> 4)) false

/-- R248: `BITTEST(b, v)`: no result, carry not produced. -/
def bitTest (b : Nat) (v : Byte) : FlagOut := ⟨some (!bitOf v b), some false, some true, none⟩

/-- R320 to R323: the flags of the accumulator rotates: Z, N, HF cleared, CY as the rotate gives it. -/
def clearZ (o : FlagOut) : FlagOut := { o with z := some false }

/-- R334: `v & ~(1 << b)`. -/
def resetBit (b : Nat) (v : Byte) : Byte := putBit v b false

/-- R335: `v | (1 << b)`. -/
def setBit (b : Nat) (v : Byte) : Byte := putBit v b true

end Sys2Proof.Machine
end

