-- ==== Sys2Proof/Machine/Operands.lean ====
section
/-! DEFINITION. Every operand form of the instruction set: 8-bit registers, register pairs, the byte at HL, immediates,
conditions (10_state.md R20 to R23; 43_alu8.md R290; 45_rotate_shift_bit.md R324; 46_control.md R340). -/

namespace Sys2Proof.Machine

/-- R21: the registers an `r` field can name. -/
inductive Reg8 where
  | b
  | c
  | d
  | e
  | h
  | l
  | a
  deriving DecidableEq, Repr

/-- R21: the pairs an `rp` or `rp2` field can name. -/
inductive Pair where
  | bc
  | de
  | hl
  | sp
  | af
  deriving DecidableEq, Repr

/-- R340: condition codes. -/
inductive Cond where
  | nz
  | z
  | nc
  | c
  deriving DecidableEq, Repr

/-- R324: the operand of an extended instruction: a register or the byte at HL. -/
inductive Target where
  | reg (r : Reg8)
  | memHL
  deriving DecidableEq, Repr

/-- R290: the second operand of an accumulator operation. -/
inductive Src where
  | reg (r : Reg8)
  | memHL
  | imm (n : Byte)
  deriving DecidableEq, Repr

/-- A register. -/
def Regs.get8 (g : Regs) : Reg8 → Byte
  | .b => g.b
  | .c => g.c
  | .d => g.d
  | .e => g.e
  | .h => g.h
  | .l => g.l
  | .a => g.a

/-- A register write. -/
def Regs.set8 (g : Regs) (r : Reg8) (v : Byte) : Regs :=
  match r with
  | .b => { g with b := v }
  | .c => { g with c := v }
  | .d => { g with d := v }
  | .e => { g with e := v }
  | .h => { g with h := v }
  | .l => { g with l := v }
  | .a => { g with a := v }

/-- R22: a pair view: the first-named register is the high byte. -/
def Regs.get16 (g : Regs) : Pair → Word
  | .bc => joinBytes g.b g.c
  | .de => joinBytes g.d g.e
  | .hl => joinBytes g.h g.l
  | .sp => g.sp
  | .af => joinBytes g.a g.f

/-- R22, R23: a write of a pair writes through to both cells; a write of AF masks the low nibble of F to zero. -/
def Regs.set16 (g : Regs) (p : Pair) (w : Word) : Regs :=
  match p with
  | .bc => { g with b := hiByte w, c := loByte w }
  | .de => { g with d := hiByte w, e := loByte w }
  | .hl => { g with h := hiByte w, l := loByte w }
  | .sp => { g with sp := w }
  | .af => { g with a := hiByte w, f := loByte w &&& 0xF0 }

/-- R22: `HL`. -/
def State.hl (s : State) : Word := s.regs.get16 .hl

/-- A register write, on the state. -/
def setReg8 (s : State) (r : Reg8) (v : Byte) : State := { s with regs := s.regs.set8 r v }

/-- A pair write, on the state. -/
def setPair (s : State) (p : Pair) (w : Word) : State := { s with regs := s.regs.set16 p w }

/-- `PC <- w` (R9). -/
def setPc (s : State) (w : Word) : State := { s with regs := { s.regs with pc := w } }

/-- R250: "flags from" a function. -/
def setFlags (s : State) (o : FlagOut) : State := { s with regs := { s.regs with f := writeFlags s.regs.f o } }

/-- R290: the value of the second operand, read once, with the state after the read. -/
def readSrc (s : State) : Src → Byte × State
  | .reg r => (s.regs.get8 r, s)
  | .memHL => busRead s s.hl
  | .imm n => (n, s)

/-- R324: `ReadT`. -/
def readTarget (s : State) : Target → Byte × State
  | .reg r => (s.regs.get8 r, s)
  | .memHL => busRead s s.hl

/-- R324: `WriteT`. -/
def writeTarget (s : State) (t : Target) (v : Byte) : State :=
  match t with
  | .reg r => setReg8 s r v
  | .memHL => busWrite s s.hl v

/-- R340: `cond(cc)` on the F of the moment. -/
def condHolds (f : Byte) : Cond → Bool
  | .nz => !zFlag f
  | .z => zFlag f
  | .nc => !cFlag f
  | .c => cFlag f

/-- R271 to R274: the high-page address `0xFF00 + o`. -/
def highPage (o : Byte) : Word := joinBytes 0xFF o

end Sys2Proof.Machine
end

