-- ==== Sys2Proof/Machine/Timing.lean ====
section
/-! DEFINITION. The Timing Driver: DIV, TIMA, the scanline machine, HDMA service (61_timing_driver.md). Every function
here runs on a state whose `clock` has already been incremented (R430). -/

namespace Sys2Proof.Machine

/-- OR bits into IF, `IO[0x0F]` (R108, R413). -/
def requestInterrupt (s : State) (bits : Byte) : State := writeIo s 0x0F (readIo s 0x0F ||| bits)

/-- R431. -/
def divTick (s : State) : State := if s.clock % nDiv s = 0 then writeIo s 0x04 (readIo s 0x04 + 1) else s

/-- R434: reload from TMA; request the Timer interrupt only if IE bit 2 is set (D20). -/
def timaOverflow (s : State) : State :=
  let s1 := writeIo s 0x05 (readIo s 0x06)
  if bitOf (readIo s1 0xFF) 2 then requestInterrupt s1 0x04 else s1

/-- R433: TIMA counts while TAC bit 2 is set, at multiples of the period that TAC bits 1:0 select. -/
def timaTick (s : State) : State :=
  let tac := readIo s 0x07
  if bitOf tac 2 = true ∧ s.clock % mTima (tac.toNat % 4) = 0 then
    if readIo s 0x05 = 0xFF then timaOverflow s else writeIo s 0x05 (readIo s 0x05 + 1)
  else s

/-- R437: the LY update, 0 to 153 and round. -/
def lyAdvance (s : State) : State :=
  writeIo s 0x44 (if (readIo s 0x44).toNat ≥ 153 then 0 else readIo s 0x44 + 1)

/-- R439: at line 144 VBlank is requested, and LCDC (STAT) if STAT bit 4 is set. -/
def lineRequests (s : State) : State :=
  if (readIo s 0x44).toNat = 144 then
    let s1 := requestInterrupt s 0x01
    if bitOf (readIo s1 0x41) 4 then requestInterrupt s1 0x02 else s1
  else s

/-- `notifyScanline(l)` for the `n` lines from `l` on, in ascending order. -/
def notifyLines : (n l : Nat) → State → State
  | 0, _, s => s
  | n + 1, l, s => notifyLines n (l + 1) (report s (.scanline l))

/-- R441: lines 144 to 169 in one burst when LY becomes 144; a visible line notifies its own number. -/
def lineNotifications (s : State) : State :=
  let ly := (readIo s 0x44).toNat
  if ly = 144 then notifyLines 26 144 s else if ly < 144 then report s (.scanline ly) else s

/-- R443: one block per acting scanline tick while a CGB transfer is active. -/
def hdmaService (s : State) : State :=
  if s.cart.cgb = true ∧ s.hdmaActive = true then
    let s1 := hdmaBlock s
    let n := readIo s1 0x55 &&& 0x7F
    if n = 0 then writeIo { s1 with hdmaActive := false } 0x55 0xFF else writeIo s1 0x55 (n - 1)
  else s

/-- R436: what a scanline tick does when it acts, in order. -/
def scanline (s : State) : State := hdmaService (lineNotifications (lineRequests (lyAdvance s)))

/-- R436. -/
def scanlineTick (s : State) : State := if s.clock % hLine s = 0 then scanline s else s

/-- R430: DIV, then TIMA, then the scanline machine. -/
def timingTick (s : State) : State := scanlineTick (timaTick (divTick s))

end Sys2Proof.Machine
end

