-- ==== Sys2Proof/Machine/Ops.lean ====
section
/-! DEFINITION. The operations that instructions and the dispatcher share: the stack (42_load16_stack.md R285, R286),
taking an interrupt and returning from one (60_exceptions.md R414, R415; 46_control.md R350), and the post-instruction
step (R410, R412). The hardware has no synchronous exception (R400). -/

namespace Sys2Proof.Machine

/-- R285: `Push16(w)`: SP is decremented before each write, the high byte is written first (D16). -/
def push16 (s : State) (w : Word) : State :=
  let s1 := setPair s .sp (s.regs.sp - 1)
  let s2 := busWrite s1 s1.regs.sp (hiByte w)
  let s3 := setPair s2 .sp (s2.regs.sp - 1)
  busWrite s3 s3.regs.sp (loByte w)

/-- R286: `Pop16()`: low byte, then high byte; SP is incremented after each read. -/
def pop16 (s : State) : Word × State :=
  let lo := busRead s s.regs.sp
  let s1 := setPair lo.2 .sp (lo.2.regs.sp + 1)
  let hi := busRead s1 s1.regs.sp
  (joinBytes hi.1 lo.1, setPair hi.2 .sp (hi.2.regs.sp + 1))

/-- R74, R415: the fixed vector of source `i`. -/
def vector (i : Nat) : Word := BitVec.ofNat 16 (0x0040 + 8 * i)

/-- R415: `InterruptEntry(i)`: PC is pushed, IME cleared, the one IF bit cleared, PC set to the vector. -/
def interruptEntry (s : State) (i : Nat) : State :=
  let s1 := push16 s s.regs.pc
  let s2 := writeIo { s1 with ime := false } 0x0F (putBit (readIo s1 0x0F) i false)
  setPc s2 (vector i)

/-- R350: the return from an interrupt handler: `PC <- Pop16(); IME <- 1`; nothing else is restored (R417). -/
def interruptReturn (s : State) : State :=
  let p := pop16 s
  { setPc p.2 p.1 with ime := true }

/-- R414: the requests that are pending and enabled, restricted to the five sources (90_conflicts.md C7). -/
def pendingRequests (s : State) : Byte := readIo s 0x0F &&& readIo s 0xFF &&& 0x1F

/-- R414, R416: the least `i` in 0..4 with bit `i` set. -/
def leastSource (p : Byte) : Option Nat := [0, 1, 2, 3, 4].find? (fun i => bitOf p i)

/-- R414: `InterruptCheck()`; only one interrupt is serviced. -/
def interruptCheck (s : State) : State :=
  match s.ime, leastSource (pendingRequests s) with
  | true, some i => interruptEntry s i
  | _, _ => s

/-- R412: the EI slot. -/
def eiSlot (s : State) : State :=
  match s.eiDelay with
  | 0 => s
  | 1 => { s with eiDelay := 0, ime := true }
  | n + 2 => { s with eiDelay := n + 1 }

/-- R38, R410: `clock <- clock + 1`, then the Timing Driver. -/
def countAndTick (s : State) : State := timingTick { s with clock := s.clock + 1 }

/-- R410: `Post()`. -/
def post (s : State) : State := interruptCheck (countAndTick (eiSlot s))

end Sys2Proof.Machine
end

