-- ==== Sys2Proof/Machine/Alu16.lean ====
section
/-! DEFINITION. 16-bit arithmetic (44_alu16.md R310 to R312). `ADD SP,e` is in Load16.lean. -/

namespace Sys2Proof.Machine

/-- R310: `ADD HL,rr`; Z and N keep their values (90_conflicts.md C4). -/
def opAddHL (p : Pair) (s : State) : Result :=
  let r := add16 s.hl (s.regs.get16 p)
  .next (setFlags (setPair s .hl r.1) r.2)

/-- R311: `INC rr`; no flag changes. -/
def opIncPair (p : Pair) (s : State) : Result := .next (setPair s p (s.regs.get16 p + 1))

/-- R312: `DEC rr`; no flag changes. -/
def opDecPair (p : Pair) (s : State) : Result := .next (setPair s p (s.regs.get16 p - 1))

/-- `INC BC` (R311). -/
def execIncBC (s : State) : Result := opIncPair .bc s

/-- `ADD HL,BC` (R310). -/
def execAddHLBC (s : State) : Result := opAddHL .bc s

/-- `DEC BC` (R312). -/
def execDecBC (s : State) : Result := opDecPair .bc s

/-- `INC DE` (R311). -/
def execIncDE (s : State) : Result := opIncPair .de s

/-- `ADD HL,DE` (R310). -/
def execAddHLDE (s : State) : Result := opAddHL .de s

/-- `DEC DE` (R312). -/
def execDecDE (s : State) : Result := opDecPair .de s

/-- `INC HL` (R311). -/
def execIncHL (s : State) : Result := opIncPair .hl s

/-- `ADD HL,HL` (R310). -/
def execAddHLHL (s : State) : Result := opAddHL .hl s

/-- `DEC HL` (R312). -/
def execDecHL (s : State) : Result := opDecPair .hl s

/-- `INC SP` (R311). -/
def execIncSP (s : State) : Result := opIncPair .sp s

/-- `ADD HL,SP` (R310). -/
def execAddHLSP (s : State) : Result := opAddHL .sp s

/-- `DEC SP` (R312). -/
def execDecSP (s : State) : Result := opDecPair .sp s

end Sys2Proof.Machine
end

