-- ==== Sys2Proof/Machine/Alu8.lean ====
section
/-! DEFINITION. 8-bit arithmetic and logic (43_alu8.md R290 to R306), over the functions of Flags.lean. -/

namespace Sys2Proof.Machine

/-- R290: an accumulator operation: the second operand is read once, then A and the flags are written. `fn` is given the
old A, the operand and the old carry. -/
def opAcc (fn : Byte → Byte → Bool → Byte × FlagOut) (src : Src) (s : State) : Result :=
  let p := readSrc s src
  let r := fn p.2.regs.a p.1 (cFlag p.2.regs.f)
  .next (setFlags (setReg8 p.2 .a r.1) r.2)

/-- R291: `ADD A,s`. -/
def opAdd (src : Src) (s : State) : Result := opAcc (fun a v _ => add8 a v false) src s

/-- R292: `ADC A,s`. -/
def opAdc (src : Src) (s : State) : Result := opAcc (fun a v c => add8 a v c) src s

/-- R293: `SUB A,s`. -/
def opSub (src : Src) (s : State) : Result := opAcc (fun a v _ => sub8 a v false) src s

/-- R294: `SBC A,s`. -/
def opSbc (src : Src) (s : State) : Result := opAcc (fun a v c => sub8 a v c) src s

/-- R295: `AND A,s`. -/
def opAnd (src : Src) (s : State) : Result := opAcc (fun a v _ => and8 a v) src s

/-- R296: `XOR A,s`. -/
def opXor (src : Src) (s : State) : Result := opAcc (fun a v _ => xor8 a v) src s

/-- R297: `OR A,s`. -/
def opOr (src : Src) (s : State) : Result := opAcc (fun a v _ => or8 a v) src s

/-- R298: `CP A,s`: the flags of `SUB`; A is not written. -/
def opCp (src : Src) (s : State) : Result :=
  let p := readSrc s src
  .next (setFlags p.2 (sub8 p.2.regs.a p.1 false).2)

/-- R299, R300: `INC`, of a register or of the byte at HL (one read, then one write). -/
def opInc (t : Target) (s : State) : Result :=
  let p := readTarget s t
  let r := inc8 p.1
  .next (writeTarget (setFlags p.2 r.2) t r.1)

/-- R301, R302: `DEC`, of a register or of the byte at HL (one read, then one write). -/
def opDec (t : Target) (s : State) : Result :=
  let p := readTarget s t
  let r := dec8 p.1
  .next (writeTarget (setFlags p.2 r.2) t r.1)

/-- R303: decimal adjust. -/
def opDaa (s : State) : Result :=
  let r := daa8 s.regs.a (nFlag s.regs.f) (hFlag s.regs.f) (cFlag s.regs.f)
  .next (setFlags (setReg8 s .a r.1) r.2)

/-- `INC B` (R299). -/
def execIncB (s : State) : Result := opInc (.reg .b) s

/-- `DEC B` (R301). -/
def execDecB (s : State) : Result := opDec (.reg .b) s

/-- `INC C` (R299). -/
def execIncC (s : State) : Result := opInc (.reg .c) s

/-- `DEC C` (R301). -/
def execDecC (s : State) : Result := opDec (.reg .c) s

/-- `INC D` (R299). -/
def execIncD (s : State) : Result := opInc (.reg .d) s

/-- `DEC D` (R301). -/
def execDecD (s : State) : Result := opDec (.reg .d) s

/-- `INC E` (R299). -/
def execIncE (s : State) : Result := opInc (.reg .e) s

/-- `DEC E` (R301). -/
def execDecE (s : State) : Result := opDec (.reg .e) s

/-- `INC H` (R299). -/
def execIncH (s : State) : Result := opInc (.reg .h) s

/-- `DEC H` (R301). -/
def execDecH (s : State) : Result := opDec (.reg .h) s

/-- `DAA` (R303). -/
def execDaa (s : State) : Result := opDaa s

/-- `INC L` (R299). -/
def execIncL (s : State) : Result := opInc (.reg .l) s

/-- `DEC L` (R301). -/
def execDecL (s : State) : Result := opDec (.reg .l) s

/-- `CPL` (R304). -/
def execCpl (s : State) : Result := .next (setFlags (setReg8 s .a (s.regs.a ^^^ 0xFF)) ⟨none, some true, some true, none⟩)

/-- `INC (HL)` (R300). -/
def execIncMemHL (s : State) : Result := opInc .memHL s

/-- `DEC (HL)` (R302). -/
def execDecMemHL (s : State) : Result := opDec .memHL s

/-- `SCF` (R305). -/
def execScf (s : State) : Result := .next (setFlags s ⟨none, some false, some false, some true⟩)

/-- `INC A` (R299). -/
def execIncA (s : State) : Result := opInc (.reg .a) s

/-- `DEC A` (R301). -/
def execDecA (s : State) : Result := opDec (.reg .a) s

/-- `CCF` (R306). -/
def execCcf (s : State) : Result := .next (setFlags s ⟨none, some false, some false, some (!cFlag s.regs.f)⟩)

/-- `ADD A,B` (R291). -/
def execAddAB (s : State) : Result := opAdd (.reg .b) s

/-- `ADD A,C` (R291). -/
def execAddAC (s : State) : Result := opAdd (.reg .c) s

/-- `ADD A,D` (R291). -/
def execAddAD (s : State) : Result := opAdd (.reg .d) s

/-- `ADD A,E` (R291). -/
def execAddAE (s : State) : Result := opAdd (.reg .e) s

/-- `ADD A,H` (R291). -/
def execAddAH (s : State) : Result := opAdd (.reg .h) s

/-- `ADD A,L` (R291). -/
def execAddAL (s : State) : Result := opAdd (.reg .l) s

/-- `ADD A,(HL)` (R291). -/
def execAddAMemHL (s : State) : Result := opAdd .memHL s

/-- `ADD A,A` (R291). -/
def execAddAA (s : State) : Result := opAdd (.reg .a) s

/-- `ADC A,B` (R292). -/
def execAdcAB (s : State) : Result := opAdc (.reg .b) s

/-- `ADC A,C` (R292). -/
def execAdcAC (s : State) : Result := opAdc (.reg .c) s

/-- `ADC A,D` (R292). -/
def execAdcAD (s : State) : Result := opAdc (.reg .d) s

/-- `ADC A,E` (R292). -/
def execAdcAE (s : State) : Result := opAdc (.reg .e) s

/-- `ADC A,H` (R292). -/
def execAdcAH (s : State) : Result := opAdc (.reg .h) s

/-- `ADC A,L` (R292). -/
def execAdcAL (s : State) : Result := opAdc (.reg .l) s

/-- `ADC A,(HL)` (R292). -/
def execAdcAMemHL (s : State) : Result := opAdc .memHL s

/-- `ADC A,A` (R292). -/
def execAdcAA (s : State) : Result := opAdc (.reg .a) s

/-- `SUB A,B` (R293). -/
def execSubAB (s : State) : Result := opSub (.reg .b) s

/-- `SUB A,C` (R293). -/
def execSubAC (s : State) : Result := opSub (.reg .c) s

/-- `SUB A,D` (R293). -/
def execSubAD (s : State) : Result := opSub (.reg .d) s

/-- `SUB A,E` (R293). -/
def execSubAE (s : State) : Result := opSub (.reg .e) s

/-- `SUB A,H` (R293). -/
def execSubAH (s : State) : Result := opSub (.reg .h) s

/-- `SUB A,L` (R293). -/
def execSubAL (s : State) : Result := opSub (.reg .l) s

/-- `SUB A,(HL)` (R293). -/
def execSubAMemHL (s : State) : Result := opSub .memHL s

/-- `SUB A,A` (R293). -/
def execSubAA (s : State) : Result := opSub (.reg .a) s

/-- `SBC A,B` (R294). -/
def execSbcAB (s : State) : Result := opSbc (.reg .b) s

/-- `SBC A,C` (R294). -/
def execSbcAC (s : State) : Result := opSbc (.reg .c) s

/-- `SBC A,D` (R294). -/
def execSbcAD (s : State) : Result := opSbc (.reg .d) s

/-- `SBC A,E` (R294). -/
def execSbcAE (s : State) : Result := opSbc (.reg .e) s

/-- `SBC A,H` (R294). -/
def execSbcAH (s : State) : Result := opSbc (.reg .h) s

/-- `SBC A,L` (R294). -/
def execSbcAL (s : State) : Result := opSbc (.reg .l) s

/-- `SBC A,(HL)` (R294). -/
def execSbcAMemHL (s : State) : Result := opSbc .memHL s

/-- `SBC A,A` (R294). -/
def execSbcAA (s : State) : Result := opSbc (.reg .a) s

/-- `AND A,B` (R295). -/
def execAndAB (s : State) : Result := opAnd (.reg .b) s

/-- `AND A,C` (R295). -/
def execAndAC (s : State) : Result := opAnd (.reg .c) s

/-- `AND A,D` (R295). -/
def execAndAD (s : State) : Result := opAnd (.reg .d) s

/-- `AND A,E` (R295). -/
def execAndAE (s : State) : Result := opAnd (.reg .e) s

/-- `AND A,H` (R295). -/
def execAndAH (s : State) : Result := opAnd (.reg .h) s

/-- `AND A,L` (R295). -/
def execAndAL (s : State) : Result := opAnd (.reg .l) s

/-- `AND A,(HL)` (R295). -/
def execAndAMemHL (s : State) : Result := opAnd .memHL s

/-- `AND A,A` (R295). -/
def execAndAA (s : State) : Result := opAnd (.reg .a) s

/-- `XOR A,B` (R296). -/
def execXorAB (s : State) : Result := opXor (.reg .b) s

/-- `XOR A,C` (R296). -/
def execXorAC (s : State) : Result := opXor (.reg .c) s

/-- `XOR A,D` (R296). -/
def execXorAD (s : State) : Result := opXor (.reg .d) s

/-- `XOR A,E` (R296). -/
def execXorAE (s : State) : Result := opXor (.reg .e) s

/-- `XOR A,H` (R296). -/
def execXorAH (s : State) : Result := opXor (.reg .h) s

/-- `XOR A,L` (R296). -/
def execXorAL (s : State) : Result := opXor (.reg .l) s

/-- `XOR A,(HL)` (R296). -/
def execXorAMemHL (s : State) : Result := opXor .memHL s

/-- `XOR A,A` (R296). -/
def execXorAA (s : State) : Result := opXor (.reg .a) s

/-- `OR A,B` (R297). -/
def execOrAB (s : State) : Result := opOr (.reg .b) s

/-- `OR A,C` (R297). -/
def execOrAC (s : State) : Result := opOr (.reg .c) s

/-- `OR A,D` (R297). -/
def execOrAD (s : State) : Result := opOr (.reg .d) s

/-- `OR A,E` (R297). -/
def execOrAE (s : State) : Result := opOr (.reg .e) s

/-- `OR A,H` (R297). -/
def execOrAH (s : State) : Result := opOr (.reg .h) s

/-- `OR A,L` (R297). -/
def execOrAL (s : State) : Result := opOr (.reg .l) s

/-- `OR A,(HL)` (R297). -/
def execOrAMemHL (s : State) : Result := opOr .memHL s

/-- `OR A,A` (R297). -/
def execOrAA (s : State) : Result := opOr (.reg .a) s

/-- `CP A,B` (R298). -/
def execCpAB (s : State) : Result := opCp (.reg .b) s

/-- `CP A,C` (R298). -/
def execCpAC (s : State) : Result := opCp (.reg .c) s

/-- `CP A,D` (R298). -/
def execCpAD (s : State) : Result := opCp (.reg .d) s

/-- `CP A,E` (R298). -/
def execCpAE (s : State) : Result := opCp (.reg .e) s

/-- `CP A,H` (R298). -/
def execCpAH (s : State) : Result := opCp (.reg .h) s

/-- `CP A,L` (R298). -/
def execCpAL (s : State) : Result := opCp (.reg .l) s

/-- `CP A,(HL)` (R298). -/
def execCpAMemHL (s : State) : Result := opCp .memHL s

/-- `CP A,A` (R298). -/
def execCpAA (s : State) : Result := opCp (.reg .a) s

/-- `ADD A,n` (R291). -/
def execAddAN (n : Byte) (s : State) : Result := opAdd (.imm n) s

/-- `ADC A,n` (R292). -/
def execAdcAN (n : Byte) (s : State) : Result := opAdc (.imm n) s

/-- `SUB A,n` (R293). -/
def execSubAN (n : Byte) (s : State) : Result := opSub (.imm n) s

/-- `SBC A,n` (R294). -/
def execSbcAN (n : Byte) (s : State) : Result := opSbc (.imm n) s

/-- `AND A,n` (R295). -/
def execAndAN (n : Byte) (s : State) : Result := opAnd (.imm n) s

/-- `XOR A,n` (R296). -/
def execXorAN (n : Byte) (s : State) : Result := opXor (.imm n) s

/-- `OR A,n` (R297). -/
def execOrAN (n : Byte) (s : State) : Result := opOr (.imm n) s

/-- `CP A,n` (R298). -/
def execCpAN (n : Byte) (s : State) : Result := opCp (.imm n) s

end Sys2Proof.Machine
end

