-- ==== Sys2Proof/Machine/BitOps.lean ====
section
/-! DEFINITION. Bit test, reset and set (45_rotate_shift_bit.md R333 to R335). -/

namespace Sys2Proof.Machine

/-- R333: `BIT b,t`: the operand is read once and not written. -/
def opBit (b : Nat) (t : Target) (s : State) : Result :=
  let p := readTarget s t
  .next (setFlags p.2 (bitTest b p.1))

/-- R334: `RES b,t`: the write happens also when the bit is already 0; F is not written. -/
def opRes (b : Nat) (t : Target) (s : State) : Result :=
  let p := readTarget s t
  .next (writeTarget p.2 t (resetBit b p.1))

/-- R335: `SET b,t`; F is not written. -/
def opSet (b : Nat) (t : Target) (s : State) : Result :=
  let p := readTarget s t
  .next (writeTarget p.2 t (setBit b p.1))

/-- `BIT 0,B` (R333). -/
def execBit0B (s : State) : Result := opBit 0 (.reg .b) s

/-- `BIT 0,C` (R333). -/
def execBit0C (s : State) : Result := opBit 0 (.reg .c) s

/-- `BIT 0,D` (R333). -/
def execBit0D (s : State) : Result := opBit 0 (.reg .d) s

/-- `BIT 0,E` (R333). -/
def execBit0E (s : State) : Result := opBit 0 (.reg .e) s

/-- `BIT 0,H` (R333). -/
def execBit0H (s : State) : Result := opBit 0 (.reg .h) s

/-- `BIT 0,L` (R333). -/
def execBit0L (s : State) : Result := opBit 0 (.reg .l) s

/-- `BIT 0,(HL)` (R333). -/
def execBit0MemHL (s : State) : Result := opBit 0 .memHL s

/-- `BIT 0,A` (R333). -/
def execBit0A (s : State) : Result := opBit 0 (.reg .a) s

/-- `BIT 1,B` (R333). -/
def execBit1B (s : State) : Result := opBit 1 (.reg .b) s

/-- `BIT 1,C` (R333). -/
def execBit1C (s : State) : Result := opBit 1 (.reg .c) s

/-- `BIT 1,D` (R333). -/
def execBit1D (s : State) : Result := opBit 1 (.reg .d) s

/-- `BIT 1,E` (R333). -/
def execBit1E (s : State) : Result := opBit 1 (.reg .e) s

/-- `BIT 1,H` (R333). -/
def execBit1H (s : State) : Result := opBit 1 (.reg .h) s

/-- `BIT 1,L` (R333). -/
def execBit1L (s : State) : Result := opBit 1 (.reg .l) s

/-- `BIT 1,(HL)` (R333). -/
def execBit1MemHL (s : State) : Result := opBit 1 .memHL s

/-- `BIT 1,A` (R333). -/
def execBit1A (s : State) : Result := opBit 1 (.reg .a) s

/-- `BIT 2,B` (R333). -/
def execBit2B (s : State) : Result := opBit 2 (.reg .b) s

/-- `BIT 2,C` (R333). -/
def execBit2C (s : State) : Result := opBit 2 (.reg .c) s

/-- `BIT 2,D` (R333). -/
def execBit2D (s : State) : Result := opBit 2 (.reg .d) s

/-- `BIT 2,E` (R333). -/
def execBit2E (s : State) : Result := opBit 2 (.reg .e) s

/-- `BIT 2,H` (R333). -/
def execBit2H (s : State) : Result := opBit 2 (.reg .h) s

/-- `BIT 2,L` (R333). -/
def execBit2L (s : State) : Result := opBit 2 (.reg .l) s

/-- `BIT 2,(HL)` (R333). -/
def execBit2MemHL (s : State) : Result := opBit 2 .memHL s

/-- `BIT 2,A` (R333). -/
def execBit2A (s : State) : Result := opBit 2 (.reg .a) s

/-- `BIT 3,B` (R333). -/
def execBit3B (s : State) : Result := opBit 3 (.reg .b) s

/-- `BIT 3,C` (R333). -/
def execBit3C (s : State) : Result := opBit 3 (.reg .c) s

/-- `BIT 3,D` (R333). -/
def execBit3D (s : State) : Result := opBit 3 (.reg .d) s

/-- `BIT 3,E` (R333). -/
def execBit3E (s : State) : Result := opBit 3 (.reg .e) s

/-- `BIT 3,H` (R333). -/
def execBit3H (s : State) : Result := opBit 3 (.reg .h) s

/-- `BIT 3,L` (R333). -/
def execBit3L (s : State) : Result := opBit 3 (.reg .l) s

/-- `BIT 3,(HL)` (R333). -/
def execBit3MemHL (s : State) : Result := opBit 3 .memHL s

/-- `BIT 3,A` (R333). -/
def execBit3A (s : State) : Result := opBit 3 (.reg .a) s

/-- `BIT 4,B` (R333). -/
def execBit4B (s : State) : Result := opBit 4 (.reg .b) s

/-- `BIT 4,C` (R333). -/
def execBit4C (s : State) : Result := opBit 4 (.reg .c) s

/-- `BIT 4,D` (R333). -/
def execBit4D (s : State) : Result := opBit 4 (.reg .d) s

/-- `BIT 4,E` (R333). -/
def execBit4E (s : State) : Result := opBit 4 (.reg .e) s

/-- `BIT 4,H` (R333). -/
def execBit4H (s : State) : Result := opBit 4 (.reg .h) s

/-- `BIT 4,L` (R333). -/
def execBit4L (s : State) : Result := opBit 4 (.reg .l) s

/-- `BIT 4,(HL)` (R333). -/
def execBit4MemHL (s : State) : Result := opBit 4 .memHL s

/-- `BIT 4,A` (R333). -/
def execBit4A (s : State) : Result := opBit 4 (.reg .a) s

/-- `BIT 5,B` (R333). -/
def execBit5B (s : State) : Result := opBit 5 (.reg .b) s

/-- `BIT 5,C` (R333). -/
def execBit5C (s : State) : Result := opBit 5 (.reg .c) s

/-- `BIT 5,D` (R333). -/
def execBit5D (s : State) : Result := opBit 5 (.reg .d) s

/-- `BIT 5,E` (R333). -/
def execBit5E (s : State) : Result := opBit 5 (.reg .e) s

/-- `BIT 5,H` (R333). -/
def execBit5H (s : State) : Result := opBit 5 (.reg .h) s

/-- `BIT 5,L` (R333). -/
def execBit5L (s : State) : Result := opBit 5 (.reg .l) s

/-- `BIT 5,(HL)` (R333). -/
def execBit5MemHL (s : State) : Result := opBit 5 .memHL s

/-- `BIT 5,A` (R333). -/
def execBit5A (s : State) : Result := opBit 5 (.reg .a) s

/-- `BIT 6,B` (R333). -/
def execBit6B (s : State) : Result := opBit 6 (.reg .b) s

/-- `BIT 6,C` (R333). -/
def execBit6C (s : State) : Result := opBit 6 (.reg .c) s

/-- `BIT 6,D` (R333). -/
def execBit6D (s : State) : Result := opBit 6 (.reg .d) s

/-- `BIT 6,E` (R333). -/
def execBit6E (s : State) : Result := opBit 6 (.reg .e) s

/-- `BIT 6,H` (R333). -/
def execBit6H (s : State) : Result := opBit 6 (.reg .h) s

/-- `BIT 6,L` (R333). -/
def execBit6L (s : State) : Result := opBit 6 (.reg .l) s

/-- `BIT 6,(HL)` (R333). -/
def execBit6MemHL (s : State) : Result := opBit 6 .memHL s

/-- `BIT 6,A` (R333). -/
def execBit6A (s : State) : Result := opBit 6 (.reg .a) s

/-- `BIT 7,B` (R333). -/
def execBit7B (s : State) : Result := opBit 7 (.reg .b) s

/-- `BIT 7,C` (R333). -/
def execBit7C (s : State) : Result := opBit 7 (.reg .c) s

/-- `BIT 7,D` (R333). -/
def execBit7D (s : State) : Result := opBit 7 (.reg .d) s

/-- `BIT 7,E` (R333). -/
def execBit7E (s : State) : Result := opBit 7 (.reg .e) s

/-- `BIT 7,H` (R333). -/
def execBit7H (s : State) : Result := opBit 7 (.reg .h) s

/-- `BIT 7,L` (R333). -/
def execBit7L (s : State) : Result := opBit 7 (.reg .l) s

/-- `BIT 7,(HL)` (R333). -/
def execBit7MemHL (s : State) : Result := opBit 7 .memHL s

/-- `BIT 7,A` (R333). -/
def execBit7A (s : State) : Result := opBit 7 (.reg .a) s

/-- `RES 0,B` (R334). -/
def execRes0B (s : State) : Result := opRes 0 (.reg .b) s

/-- `RES 0,C` (R334). -/
def execRes0C (s : State) : Result := opRes 0 (.reg .c) s

/-- `RES 0,D` (R334). -/
def execRes0D (s : State) : Result := opRes 0 (.reg .d) s

/-- `RES 0,E` (R334). -/
def execRes0E (s : State) : Result := opRes 0 (.reg .e) s

/-- `RES 0,H` (R334). -/
def execRes0H (s : State) : Result := opRes 0 (.reg .h) s

/-- `RES 0,L` (R334). -/
def execRes0L (s : State) : Result := opRes 0 (.reg .l) s

/-- `RES 0,(HL)` (R334). -/
def execRes0MemHL (s : State) : Result := opRes 0 .memHL s

/-- `RES 0,A` (R334). -/
def execRes0A (s : State) : Result := opRes 0 (.reg .a) s

/-- `RES 1,B` (R334). -/
def execRes1B (s : State) : Result := opRes 1 (.reg .b) s

/-- `RES 1,C` (R334). -/
def execRes1C (s : State) : Result := opRes 1 (.reg .c) s

/-- `RES 1,D` (R334). -/
def execRes1D (s : State) : Result := opRes 1 (.reg .d) s

/-- `RES 1,E` (R334). -/
def execRes1E (s : State) : Result := opRes 1 (.reg .e) s

/-- `RES 1,H` (R334). -/
def execRes1H (s : State) : Result := opRes 1 (.reg .h) s

/-- `RES 1,L` (R334). -/
def execRes1L (s : State) : Result := opRes 1 (.reg .l) s

/-- `RES 1,(HL)` (R334). -/
def execRes1MemHL (s : State) : Result := opRes 1 .memHL s

/-- `RES 1,A` (R334). -/
def execRes1A (s : State) : Result := opRes 1 (.reg .a) s

/-- `RES 2,B` (R334). -/
def execRes2B (s : State) : Result := opRes 2 (.reg .b) s

/-- `RES 2,C` (R334). -/
def execRes2C (s : State) : Result := opRes 2 (.reg .c) s

/-- `RES 2,D` (R334). -/
def execRes2D (s : State) : Result := opRes 2 (.reg .d) s

/-- `RES 2,E` (R334). -/
def execRes2E (s : State) : Result := opRes 2 (.reg .e) s

/-- `RES 2,H` (R334). -/
def execRes2H (s : State) : Result := opRes 2 (.reg .h) s

/-- `RES 2,L` (R334). -/
def execRes2L (s : State) : Result := opRes 2 (.reg .l) s

/-- `RES 2,(HL)` (R334). -/
def execRes2MemHL (s : State) : Result := opRes 2 .memHL s

/-- `RES 2,A` (R334). -/
def execRes2A (s : State) : Result := opRes 2 (.reg .a) s

/-- `RES 3,B` (R334). -/
def execRes3B (s : State) : Result := opRes 3 (.reg .b) s

/-- `RES 3,C` (R334). -/
def execRes3C (s : State) : Result := opRes 3 (.reg .c) s

/-- `RES 3,D` (R334). -/
def execRes3D (s : State) : Result := opRes 3 (.reg .d) s

/-- `RES 3,E` (R334). -/
def execRes3E (s : State) : Result := opRes 3 (.reg .e) s

/-- `RES 3,H` (R334). -/
def execRes3H (s : State) : Result := opRes 3 (.reg .h) s

/-- `RES 3,L` (R334). -/
def execRes3L (s : State) : Result := opRes 3 (.reg .l) s

/-- `RES 3,(HL)` (R334). -/
def execRes3MemHL (s : State) : Result := opRes 3 .memHL s

/-- `RES 3,A` (R334). -/
def execRes3A (s : State) : Result := opRes 3 (.reg .a) s

/-- `RES 4,B` (R334). -/
def execRes4B (s : State) : Result := opRes 4 (.reg .b) s

/-- `RES 4,C` (R334). -/
def execRes4C (s : State) : Result := opRes 4 (.reg .c) s

/-- `RES 4,D` (R334). -/
def execRes4D (s : State) : Result := opRes 4 (.reg .d) s

/-- `RES 4,E` (R334). -/
def execRes4E (s : State) : Result := opRes 4 (.reg .e) s

/-- `RES 4,H` (R334). -/
def execRes4H (s : State) : Result := opRes 4 (.reg .h) s

/-- `RES 4,L` (R334). -/
def execRes4L (s : State) : Result := opRes 4 (.reg .l) s

/-- `RES 4,(HL)` (R334). -/
def execRes4MemHL (s : State) : Result := opRes 4 .memHL s

/-- `RES 4,A` (R334). -/
def execRes4A (s : State) : Result := opRes 4 (.reg .a) s

/-- `RES 5,B` (R334). -/
def execRes5B (s : State) : Result := opRes 5 (.reg .b) s

/-- `RES 5,C` (R334). -/
def execRes5C (s : State) : Result := opRes 5 (.reg .c) s

/-- `RES 5,D` (R334). -/
def execRes5D (s : State) : Result := opRes 5 (.reg .d) s

/-- `RES 5,E` (R334). -/
def execRes5E (s : State) : Result := opRes 5 (.reg .e) s

/-- `RES 5,H` (R334). -/
def execRes5H (s : State) : Result := opRes 5 (.reg .h) s

/-- `RES 5,L` (R334). -/
def execRes5L (s : State) : Result := opRes 5 (.reg .l) s

/-- `RES 5,(HL)` (R334). -/
def execRes5MemHL (s : State) : Result := opRes 5 .memHL s

/-- `RES 5,A` (R334). -/
def execRes5A (s : State) : Result := opRes 5 (.reg .a) s

/-- `RES 6,B` (R334). -/
def execRes6B (s : State) : Result := opRes 6 (.reg .b) s

/-- `RES 6,C` (R334). -/
def execRes6C (s : State) : Result := opRes 6 (.reg .c) s

/-- `RES 6,D` (R334). -/
def execRes6D (s : State) : Result := opRes 6 (.reg .d) s

/-- `RES 6,E` (R334). -/
def execRes6E (s : State) : Result := opRes 6 (.reg .e) s

/-- `RES 6,H` (R334). -/
def execRes6H (s : State) : Result := opRes 6 (.reg .h) s

/-- `RES 6,L` (R334). -/
def execRes6L (s : State) : Result := opRes 6 (.reg .l) s

/-- `RES 6,(HL)` (R334). -/
def execRes6MemHL (s : State) : Result := opRes 6 .memHL s

/-- `RES 6,A` (R334). -/
def execRes6A (s : State) : Result := opRes 6 (.reg .a) s

/-- `RES 7,B` (R334). -/
def execRes7B (s : State) : Result := opRes 7 (.reg .b) s

/-- `RES 7,C` (R334). -/
def execRes7C (s : State) : Result := opRes 7 (.reg .c) s

/-- `RES 7,D` (R334). -/
def execRes7D (s : State) : Result := opRes 7 (.reg .d) s

/-- `RES 7,E` (R334). -/
def execRes7E (s : State) : Result := opRes 7 (.reg .e) s

/-- `RES 7,H` (R334). -/
def execRes7H (s : State) : Result := opRes 7 (.reg .h) s

/-- `RES 7,L` (R334). -/
def execRes7L (s : State) : Result := opRes 7 (.reg .l) s

/-- `RES 7,(HL)` (R334). -/
def execRes7MemHL (s : State) : Result := opRes 7 .memHL s

/-- `RES 7,A` (R334). -/
def execRes7A (s : State) : Result := opRes 7 (.reg .a) s

/-- `SET 0,B` (R335). -/
def execSet0B (s : State) : Result := opSet 0 (.reg .b) s

/-- `SET 0,C` (R335). -/
def execSet0C (s : State) : Result := opSet 0 (.reg .c) s

/-- `SET 0,D` (R335). -/
def execSet0D (s : State) : Result := opSet 0 (.reg .d) s

/-- `SET 0,E` (R335). -/
def execSet0E (s : State) : Result := opSet 0 (.reg .e) s

/-- `SET 0,H` (R335). -/
def execSet0H (s : State) : Result := opSet 0 (.reg .h) s

/-- `SET 0,L` (R335). -/
def execSet0L (s : State) : Result := opSet 0 (.reg .l) s

/-- `SET 0,(HL)` (R335). -/
def execSet0MemHL (s : State) : Result := opSet 0 .memHL s

/-- `SET 0,A` (R335). -/
def execSet0A (s : State) : Result := opSet 0 (.reg .a) s

/-- `SET 1,B` (R335). -/
def execSet1B (s : State) : Result := opSet 1 (.reg .b) s

/-- `SET 1,C` (R335). -/
def execSet1C (s : State) : Result := opSet 1 (.reg .c) s

/-- `SET 1,D` (R335). -/
def execSet1D (s : State) : Result := opSet 1 (.reg .d) s

/-- `SET 1,E` (R335). -/
def execSet1E (s : State) : Result := opSet 1 (.reg .e) s

/-- `SET 1,H` (R335). -/
def execSet1H (s : State) : Result := opSet 1 (.reg .h) s

/-- `SET 1,L` (R335). -/
def execSet1L (s : State) : Result := opSet 1 (.reg .l) s

/-- `SET 1,(HL)` (R335). -/
def execSet1MemHL (s : State) : Result := opSet 1 .memHL s

/-- `SET 1,A` (R335). -/
def execSet1A (s : State) : Result := opSet 1 (.reg .a) s

/-- `SET 2,B` (R335). -/
def execSet2B (s : State) : Result := opSet 2 (.reg .b) s

/-- `SET 2,C` (R335). -/
def execSet2C (s : State) : Result := opSet 2 (.reg .c) s

/-- `SET 2,D` (R335). -/
def execSet2D (s : State) : Result := opSet 2 (.reg .d) s

/-- `SET 2,E` (R335). -/
def execSet2E (s : State) : Result := opSet 2 (.reg .e) s

/-- `SET 2,H` (R335). -/
def execSet2H (s : State) : Result := opSet 2 (.reg .h) s

/-- `SET 2,L` (R335). -/
def execSet2L (s : State) : Result := opSet 2 (.reg .l) s

/-- `SET 2,(HL)` (R335). -/
def execSet2MemHL (s : State) : Result := opSet 2 .memHL s

/-- `SET 2,A` (R335). -/
def execSet2A (s : State) : Result := opSet 2 (.reg .a) s

/-- `SET 3,B` (R335). -/
def execSet3B (s : State) : Result := opSet 3 (.reg .b) s

/-- `SET 3,C` (R335). -/
def execSet3C (s : State) : Result := opSet 3 (.reg .c) s

/-- `SET 3,D` (R335). -/
def execSet3D (s : State) : Result := opSet 3 (.reg .d) s

/-- `SET 3,E` (R335). -/
def execSet3E (s : State) : Result := opSet 3 (.reg .e) s

/-- `SET 3,H` (R335). -/
def execSet3H (s : State) : Result := opSet 3 (.reg .h) s

/-- `SET 3,L` (R335). -/
def execSet3L (s : State) : Result := opSet 3 (.reg .l) s

/-- `SET 3,(HL)` (R335). -/
def execSet3MemHL (s : State) : Result := opSet 3 .memHL s

/-- `SET 3,A` (R335). -/
def execSet3A (s : State) : Result := opSet 3 (.reg .a) s

/-- `SET 4,B` (R335). -/
def execSet4B (s : State) : Result := opSet 4 (.reg .b) s

/-- `SET 4,C` (R335). -/
def execSet4C (s : State) : Result := opSet 4 (.reg .c) s

/-- `SET 4,D` (R335). -/
def execSet4D (s : State) : Result := opSet 4 (.reg .d) s

/-- `SET 4,E` (R335). -/
def execSet4E (s : State) : Result := opSet 4 (.reg .e) s

/-- `SET 4,H` (R335). -/
def execSet4H (s : State) : Result := opSet 4 (.reg .h) s

/-- `SET 4,L` (R335). -/
def execSet4L (s : State) : Result := opSet 4 (.reg .l) s

/-- `SET 4,(HL)` (R335). -/
def execSet4MemHL (s : State) : Result := opSet 4 .memHL s

/-- `SET 4,A` (R335). -/
def execSet4A (s : State) : Result := opSet 4 (.reg .a) s

/-- `SET 5,B` (R335). -/
def execSet5B (s : State) : Result := opSet 5 (.reg .b) s

/-- `SET 5,C` (R335). -/
def execSet5C (s : State) : Result := opSet 5 (.reg .c) s

/-- `SET 5,D` (R335). -/
def execSet5D (s : State) : Result := opSet 5 (.reg .d) s

/-- `SET 5,E` (R335). -/
def execSet5E (s : State) : Result := opSet 5 (.reg .e) s

/-- `SET 5,H` (R335). -/
def execSet5H (s : State) : Result := opSet 5 (.reg .h) s

/-- `SET 5,L` (R335). -/
def execSet5L (s : State) : Result := opSet 5 (.reg .l) s

/-- `SET 5,(HL)` (R335). -/
def execSet5MemHL (s : State) : Result := opSet 5 .memHL s

/-- `SET 5,A` (R335). -/
def execSet5A (s : State) : Result := opSet 5 (.reg .a) s

/-- `SET 6,B` (R335). -/
def execSet6B (s : State) : Result := opSet 6 (.reg .b) s

/-- `SET 6,C` (R335). -/
def execSet6C (s : State) : Result := opSet 6 (.reg .c) s

/-- `SET 6,D` (R335). -/
def execSet6D (s : State) : Result := opSet 6 (.reg .d) s

/-- `SET 6,E` (R335). -/
def execSet6E (s : State) : Result := opSet 6 (.reg .e) s

/-- `SET 6,H` (R335). -/
def execSet6H (s : State) : Result := opSet 6 (.reg .h) s

/-- `SET 6,L` (R335). -/
def execSet6L (s : State) : Result := opSet 6 (.reg .l) s

/-- `SET 6,(HL)` (R335). -/
def execSet6MemHL (s : State) : Result := opSet 6 .memHL s

/-- `SET 6,A` (R335). -/
def execSet6A (s : State) : Result := opSet 6 (.reg .a) s

/-- `SET 7,B` (R335). -/
def execSet7B (s : State) : Result := opSet 7 (.reg .b) s

/-- `SET 7,C` (R335). -/
def execSet7C (s : State) : Result := opSet 7 (.reg .c) s

/-- `SET 7,D` (R335). -/
def execSet7D (s : State) : Result := opSet 7 (.reg .d) s

/-- `SET 7,E` (R335). -/
def execSet7E (s : State) : Result := opSet 7 (.reg .e) s

/-- `SET 7,H` (R335). -/
def execSet7H (s : State) : Result := opSet 7 (.reg .h) s

/-- `SET 7,L` (R335). -/
def execSet7L (s : State) : Result := opSet 7 (.reg .l) s

/-- `SET 7,(HL)` (R335). -/
def execSet7MemHL (s : State) : Result := opSet 7 .memHL s

/-- `SET 7,A` (R335). -/
def execSet7A (s : State) : Result := opSet 7 (.reg .a) s

end Sys2Proof.Machine
end

