-- ==== Sys2Proof/Machine/Control.lean ====
section
/-! DEFINITION. Jumps, calls, returns and restarts (46_control.md R341 to R351). PC already holds the post-advance address (R10). -/

namespace Sys2Proof.Machine

/-- R344: PC moves by the signed displacement, from the post-fetch PC. -/
def jumpRelative (s : State) (e : Byte) : State := setPc s (s.regs.pc + signExtend8 e)

/-- R346, R351: `Push16(PC); PC <- target`. -/
def call (s : State) (target : Word) : State := setPc (push16 s s.regs.pc) target

/-- R348: `PC <- Pop16()`. -/
def popPc (s : State) : State :=
  let w := pop16 s
  setPc w.2 w.1

/-- R342: `JP cc,nn`. -/
def opJpIf (cc : Cond) (nn : Word) (s : State) : Result := .next (if condHolds s.regs.f cc then setPc s nn else s)

/-- R345: `JR cc,e`. -/
def opJrIf (cc : Cond) (e : Byte) (s : State) : Result := .next (if condHolds s.regs.f cc then jumpRelative s e else s)

/-- R347: `CALL cc,nn`; nothing is pushed when the condition is false. -/
def opCallIf (cc : Cond) (nn : Word) (s : State) : Result := .next (if condHolds s.regs.f cc then call s nn else s)

/-- R349: `RET cc`; no memory is read when the condition is false. -/
def opRetIf (cc : Cond) (s : State) : Result := .next (if condHolds s.regs.f cc then popPc s else s)

/-- R351: `RST t`. -/
def opRst (t : Word) (s : State) : Result := .next (call s t)

/-- `JR e` (R344). -/
def execJrE (e : Byte) (s : State) : Result := .next (jumpRelative s e)

/-- `JR NZ,e` (R345). -/
def execJrNZE (e : Byte) (s : State) : Result := opJrIf .nz e s

/-- `JR Z,e` (R345). -/
def execJrZE (e : Byte) (s : State) : Result := opJrIf .z e s

/-- `JR NC,e` (R345). -/
def execJrNCE (e : Byte) (s : State) : Result := opJrIf .nc e s

/-- `JR C,e` (R345). -/
def execJrCE (e : Byte) (s : State) : Result := opJrIf .c e s

/-- `RET NZ` (R349). -/
def execRetNZ (s : State) : Result := opRetIf .nz s

/-- `JP NZ,nn` (R342). -/
def execJpNZNn (nn : Word) (s : State) : Result := opJpIf .nz nn s

/-- `JP nn` (R341). -/
def execJpNn (nn : Word) (s : State) : Result := .next (setPc s nn)

/-- `CALL NZ,nn` (R347). -/
def execCallNZNn (nn : Word) (s : State) : Result := opCallIf .nz nn s

/-- `RST 00H` (R351). -/
def execRst00 (s : State) : Result := opRst 0x00 s

/-- `RET Z` (R349). -/
def execRetZ (s : State) : Result := opRetIf .z s

/-- `RET` (R348). -/
def execRet (s : State) : Result := .next (popPc s)

/-- `JP Z,nn` (R342). -/
def execJpZNn (nn : Word) (s : State) : Result := opJpIf .z nn s

/-- `CALL Z,nn` (R347). -/
def execCallZNn (nn : Word) (s : State) : Result := opCallIf .z nn s

/-- `CALL nn` (R346). -/
def execCallNn (nn : Word) (s : State) : Result := .next (call s nn)

/-- `RST 08H` (R351). -/
def execRst08 (s : State) : Result := opRst 0x08 s

/-- `RET NC` (R349). -/
def execRetNC (s : State) : Result := opRetIf .nc s

/-- `JP NC,nn` (R342). -/
def execJpNCNn (nn : Word) (s : State) : Result := opJpIf .nc nn s

/-- `CALL NC,nn` (R347). -/
def execCallNCNn (nn : Word) (s : State) : Result := opCallIf .nc nn s

/-- `RST 10H` (R351). -/
def execRst10 (s : State) : Result := opRst 0x10 s

/-- `RET C` (R349). -/
def execRetC (s : State) : Result := opRetIf .c s

/-- `RETI` (R350). -/
def execReti (s : State) : Result := .next (interruptReturn s)

/-- `JP C,nn` (R342). -/
def execJpCNn (nn : Word) (s : State) : Result := opJpIf .c nn s

/-- `CALL C,nn` (R347). -/
def execCallCNn (nn : Word) (s : State) : Result := opCallIf .c nn s

/-- `RST 18H` (R351). -/
def execRst18 (s : State) : Result := opRst 0x18 s

/-- `RST 20H` (R351). -/
def execRst20 (s : State) : Result := opRst 0x20 s

/-- `JP HL` (R343). -/
def execJpHL (s : State) : Result := .next (setPc s s.hl)

/-- `RST 28H` (R351). -/
def execRst28 (s : State) : Result := opRst 0x28 s

/-- `RST 30H` (R351). -/
def execRst30 (s : State) : Result := opRst 0x30 s

/-- `RST 38H` (R351). -/
def execRst38 (s : State) : Result := opRst 0x38 s

end Sys2Proof.Machine
end

