-- ==== Sys2Proof/Machine/Load16.lean ====
section
/-! DEFINITION. 16-bit loads and the stack instructions (42_load16_stack.md R280 to R288), with `ADD SP,e` (44_alu16.md R313), which
shares `ADDSP`. -/

namespace Sys2Proof.Machine

/-- R280: load a 16-bit immediate. -/
def opLoadPair (p : Pair) (nn : Word) (s : State) : Result := .next (setPair s p nn)

/-- R283, R313: `ADDSP` into HL or SP, with its flags. -/
def opAddSp (p : Pair) (e : Byte) (s : State) : Result :=
  let r := addSp s.regs.sp e
  .next (setFlags (setPair s p r.1) r.2)

/-- R284: push a pair. -/
def opPush (p : Pair) (s : State) : Result := .next (push16 s (s.regs.get16 p))

/-- R287, R288: pop a pair; a pop of AF masks the low nibble of F (R23). -/
def opPop (p : Pair) (s : State) : Result :=
  let w := pop16 s
  .next (setPair w.2 p w.1)

/-- `ADD SP,e` (R313). -/
def execAddSPE (e : Byte) (s : State) : Result := opAddSp .sp e s

/-- `LD BC,nn` (R280). -/
def execLdBCNn (nn : Word) (s : State) : Result := opLoadPair .bc nn s

/-- `LD (nn),SP` (R281). -/
def execLdMemNnSP (nn : Word) (s : State) : Result := .next (busWrite16 s nn s.regs.sp)

/-- `LD DE,nn` (R280). -/
def execLdDENn (nn : Word) (s : State) : Result := opLoadPair .de nn s

/-- `LD HL,nn` (R280). -/
def execLdHLNn (nn : Word) (s : State) : Result := opLoadPair .hl nn s

/-- `LD SP,nn` (R280). -/
def execLdSPNn (nn : Word) (s : State) : Result := opLoadPair .sp nn s

/-- `POP BC` (R287). -/
def execPopBC (s : State) : Result := opPop .bc s

/-- `PUSH BC` (R284). -/
def execPushBC (s : State) : Result := opPush .bc s

/-- `POP DE` (R287). -/
def execPopDE (s : State) : Result := opPop .de s

/-- `PUSH DE` (R284). -/
def execPushDE (s : State) : Result := opPush .de s

/-- `POP HL` (R287). -/
def execPopHL (s : State) : Result := opPop .hl s

/-- `PUSH HL` (R284). -/
def execPushHL (s : State) : Result := opPush .hl s

/-- `POP AF` (R288). -/
def execPopAF (s : State) : Result := opPop .af s

/-- `PUSH AF` (R284). -/
def execPushAF (s : State) : Result := opPush .af s

/-- `LD HL,SP+e` (R283). -/
def execLdHLSPE (e : Byte) (s : State) : Result := opAddSp .hl e s

/-- `LD SP,HL` (R282). -/
def execLdSPHL (s : State) : Result := .next (setPair s .sp s.hl)

end Sys2Proof.Machine
end

