-- ==== Sys2Proof/Machine/Load8.lean ====
section
/-! DEFINITION. 8-bit loads and stores (41_load8.md R260 to R278). None writes F, none can raise an exception. -/

namespace Sys2Proof.Machine

/-- R260: copy register to register. -/
def opLoadReg (r r' : Reg8) (s : State) : Result := .next (setReg8 s r (s.regs.get8 r'))

/-- R261: load immediate. -/
def opLoadImm (r : Reg8) (n : Byte) (s : State) : Result := .next (setReg8 s r n)

/-- R262: load from memory at HL, read before the register is written. -/
def opLoadMemHL (r : Reg8) (s : State) : Result :=
  let p := busRead s s.hl
  .next (setReg8 p.2 r p.1)

/-- R263: store a register at HL. -/
def opStoreMemHL (r : Reg8) (s : State) : Result := .next (busWrite s s.hl (s.regs.get8 r))

/-- R265, R266, R269, R271, R273: load A from an address. -/
def opLoadA (a : Word) (s : State) : Result :=
  let p := busRead s a
  .next (setReg8 p.2 .a p.1)

/-- R267, R268, R270, R272, R274: store A at an address. -/
def opStoreA (a : Word) (s : State) : Result := .next (busWrite s a s.regs.a)

/-- R275, R277: store A at HL, then add `step` to HL. -/
def opStoreStep (step : Word) (s : State) : Result :=
  let s1 := busWrite s s.hl s.regs.a
  .next (setPair s1 .hl (s1.hl + step))

/-- R276, R278: load A from HL, then add `step` to HL. -/
def opLoadStep (step : Word) (s : State) : Result :=
  let p := busRead s s.hl
  let s1 := setReg8 p.2 .a p.1
  .next (setPair s1 .hl (s1.hl + step))

/-- `LD (BC),A` (R267). -/
def execLdMemBCA (s : State) : Result := opStoreA (s.regs.get16 .bc) s

/-- `LD B,n` (R261). -/
def execLdBN (n : Byte) (s : State) : Result := opLoadImm .b n s

/-- `LD A,(BC)` (R265). -/
def execLdAMemBC (s : State) : Result := opLoadA (s.regs.get16 .bc) s

/-- `LD C,n` (R261). -/
def execLdCN (n : Byte) (s : State) : Result := opLoadImm .c n s

/-- `LD (DE),A` (R268). -/
def execLdMemDEA (s : State) : Result := opStoreA (s.regs.get16 .de) s

/-- `LD D,n` (R261). -/
def execLdDN (n : Byte) (s : State) : Result := opLoadImm .d n s

/-- `LD A,(DE)` (R266). -/
def execLdAMemDE (s : State) : Result := opLoadA (s.regs.get16 .de) s

/-- `LD E,n` (R261). -/
def execLdEN (n : Byte) (s : State) : Result := opLoadImm .e n s

/-- `LD (HL+),A` (R275). -/
def execLdMemHLIncA (s : State) : Result := opStoreStep 1 s

/-- `LD H,n` (R261). -/
def execLdHN (n : Byte) (s : State) : Result := opLoadImm .h n s

/-- `LD A,(HL+)` (R276). -/
def execLdAMemHLInc (s : State) : Result := opLoadStep 1 s

/-- `LD L,n` (R261). -/
def execLdLN (n : Byte) (s : State) : Result := opLoadImm .l n s

/-- `LD (HL-),A` (R277). -/
def execLdMemHLDecA (s : State) : Result := opStoreStep (-1) s

/-- `LD (HL),n` (R264). -/
def execLdMemHLN (n : Byte) (s : State) : Result := .next (busWrite s s.hl n)

/-- `LD A,(HL-)` (R278). -/
def execLdAMemHLDec (s : State) : Result := opLoadStep (-1) s

/-- `LD A,n` (R261). -/
def execLdAN (n : Byte) (s : State) : Result := opLoadImm .a n s

/-- `LD B,B` (R260). -/
def execLdBB (s : State) : Result := opLoadReg .b .b s

/-- `LD B,C` (R260). -/
def execLdBC (s : State) : Result := opLoadReg .b .c s

/-- `LD B,D` (R260). -/
def execLdBD (s : State) : Result := opLoadReg .b .d s

/-- `LD B,E` (R260). -/
def execLdBE (s : State) : Result := opLoadReg .b .e s

/-- `LD B,H` (R260). -/
def execLdBH (s : State) : Result := opLoadReg .b .h s

/-- `LD B,L` (R260). -/
def execLdBL (s : State) : Result := opLoadReg .b .l s

/-- `LD B,(HL)` (R262). -/
def execLdBMemHL (s : State) : Result := opLoadMemHL .b s

/-- `LD B,A` (R260). -/
def execLdBA (s : State) : Result := opLoadReg .b .a s

/-- `LD C,B` (R260). -/
def execLdCB (s : State) : Result := opLoadReg .c .b s

/-- `LD C,C` (R260). -/
def execLdCC (s : State) : Result := opLoadReg .c .c s

/-- `LD C,D` (R260). -/
def execLdCD (s : State) : Result := opLoadReg .c .d s

/-- `LD C,E` (R260). -/
def execLdCE (s : State) : Result := opLoadReg .c .e s

/-- `LD C,H` (R260). -/
def execLdCH (s : State) : Result := opLoadReg .c .h s

/-- `LD C,L` (R260). -/
def execLdCL (s : State) : Result := opLoadReg .c .l s

/-- `LD C,(HL)` (R262). -/
def execLdCMemHL (s : State) : Result := opLoadMemHL .c s

/-- `LD C,A` (R260). -/
def execLdCA (s : State) : Result := opLoadReg .c .a s

/-- `LD D,B` (R260). -/
def execLdDB (s : State) : Result := opLoadReg .d .b s

/-- `LD D,C` (R260). -/
def execLdDC (s : State) : Result := opLoadReg .d .c s

/-- `LD D,D` (R260). -/
def execLdDD (s : State) : Result := opLoadReg .d .d s

/-- `LD D,E` (R260). -/
def execLdDE (s : State) : Result := opLoadReg .d .e s

/-- `LD D,H` (R260). -/
def execLdDH (s : State) : Result := opLoadReg .d .h s

/-- `LD D,L` (R260). -/
def execLdDL (s : State) : Result := opLoadReg .d .l s

/-- `LD D,(HL)` (R262). -/
def execLdDMemHL (s : State) : Result := opLoadMemHL .d s

/-- `LD D,A` (R260). -/
def execLdDA (s : State) : Result := opLoadReg .d .a s

/-- `LD E,B` (R260). -/
def execLdEB (s : State) : Result := opLoadReg .e .b s

/-- `LD E,C` (R260). -/
def execLdEC (s : State) : Result := opLoadReg .e .c s

/-- `LD E,D` (R260). -/
def execLdED (s : State) : Result := opLoadReg .e .d s

/-- `LD E,E` (R260). -/
def execLdEE (s : State) : Result := opLoadReg .e .e s

/-- `LD E,H` (R260). -/
def execLdEH (s : State) : Result := opLoadReg .e .h s

/-- `LD E,L` (R260). -/
def execLdEL (s : State) : Result := opLoadReg .e .l s

/-- `LD E,(HL)` (R262). -/
def execLdEMemHL (s : State) : Result := opLoadMemHL .e s

/-- `LD E,A` (R260). -/
def execLdEA (s : State) : Result := opLoadReg .e .a s

/-- `LD H,B` (R260). -/
def execLdHB (s : State) : Result := opLoadReg .h .b s

/-- `LD H,C` (R260). -/
def execLdHC (s : State) : Result := opLoadReg .h .c s

/-- `LD H,D` (R260). -/
def execLdHD (s : State) : Result := opLoadReg .h .d s

/-- `LD H,E` (R260). -/
def execLdHE (s : State) : Result := opLoadReg .h .e s

/-- `LD H,H` (R260). -/
def execLdHH (s : State) : Result := opLoadReg .h .h s

/-- `LD H,L` (R260). -/
def execLdHL (s : State) : Result := opLoadReg .h .l s

/-- `LD H,(HL)` (R262). -/
def execLdHMemHL (s : State) : Result := opLoadMemHL .h s

/-- `LD H,A` (R260). -/
def execLdHA (s : State) : Result := opLoadReg .h .a s

/-- `LD L,B` (R260). -/
def execLdLB (s : State) : Result := opLoadReg .l .b s

/-- `LD L,C` (R260). -/
def execLdLC (s : State) : Result := opLoadReg .l .c s

/-- `LD L,D` (R260). -/
def execLdLD (s : State) : Result := opLoadReg .l .d s

/-- `LD L,E` (R260). -/
def execLdLE (s : State) : Result := opLoadReg .l .e s

/-- `LD L,H` (R260). -/
def execLdLH (s : State) : Result := opLoadReg .l .h s

/-- `LD L,L` (R260). -/
def execLdLL (s : State) : Result := opLoadReg .l .l s

/-- `LD L,(HL)` (R262). -/
def execLdLMemHL (s : State) : Result := opLoadMemHL .l s

/-- `LD L,A` (R260). -/
def execLdLA (s : State) : Result := opLoadReg .l .a s

/-- `LD (HL),B` (R263). -/
def execLdMemHLB (s : State) : Result := opStoreMemHL .b s

/-- `LD (HL),C` (R263). -/
def execLdMemHLC (s : State) : Result := opStoreMemHL .c s

/-- `LD (HL),D` (R263). -/
def execLdMemHLD (s : State) : Result := opStoreMemHL .d s

/-- `LD (HL),E` (R263). -/
def execLdMemHLE (s : State) : Result := opStoreMemHL .e s

/-- `LD (HL),H` (R263). -/
def execLdMemHLH (s : State) : Result := opStoreMemHL .h s

/-- `LD (HL),L` (R263). -/
def execLdMemHLL (s : State) : Result := opStoreMemHL .l s

/-- `LD (HL),A` (R263). -/
def execLdMemHLA (s : State) : Result := opStoreMemHL .a s

/-- `LD A,B` (R260). -/
def execLdAB (s : State) : Result := opLoadReg .a .b s

/-- `LD A,C` (R260). -/
def execLdAC (s : State) : Result := opLoadReg .a .c s

/-- `LD A,D` (R260). -/
def execLdAD (s : State) : Result := opLoadReg .a .d s

/-- `LD A,E` (R260). -/
def execLdAE (s : State) : Result := opLoadReg .a .e s

/-- `LD A,H` (R260). -/
def execLdAH (s : State) : Result := opLoadReg .a .h s

/-- `LD A,L` (R260). -/
def execLdAL (s : State) : Result := opLoadReg .a .l s

/-- `LD A,(HL)` (R262). -/
def execLdAMemHL (s : State) : Result := opLoadMemHL .a s

/-- `LD A,A` (R260). -/
def execLdAA (s : State) : Result := opLoadReg .a .a s

/-- `LDH (n),A` (R274). -/
def execLdhMemNA (n : Byte) (s : State) : Result := opStoreA (highPage n) s

/-- `LDH (C),A` (R272). -/
def execLdhMemCA (s : State) : Result := opStoreA (highPage s.regs.c) s

/-- `LD (nn),A` (R270). -/
def execLdMemNnA (nn : Word) (s : State) : Result := opStoreA nn s

/-- `LDH A,(n)` (R273). -/
def execLdhAMemN (n : Byte) (s : State) : Result := opLoadA (highPage n) s

/-- `LDH A,(C)` (R271). -/
def execLdhAMemC (s : State) : Result := opLoadA (highPage s.regs.c) s

/-- `LD A,(nn)` (R269). -/
def execLdAMemNn (nn : Word) (s : State) : Result := opLoadA nn s

end Sys2Proof.Machine
end

