-- ==== Sys2Proof/Machine/Rotate.lean ====
section
/-! DEFINITION. Rotates, shifts and swap (45_rotate_shift_bit.md R320 to R332). -/

namespace Sys2Proof.Machine

/-- R320 to R323: the accumulator rotates, which always clear Z. `fn` is given A and the old carry. -/
def opRotA (fn : Byte → Bool → Byte × FlagOut) (s : State) : Result :=
  let r := fn s.regs.a (cFlag s.regs.f)
  .next (setFlags (setReg8 s .a r.1) (clearZ r.2))

/-- R325 to R332: read the operand, write the result back (for `(HL)` one read, then one write) and the flags. -/
def opShift (fn : Byte → Bool → Byte × FlagOut) (t : Target) (s : State) : Result :=
  let p := readTarget s t
  let r := fn p.1 (cFlag p.2.regs.f)
  .next (writeTarget (setFlags p.2 r.2) t r.1)

/-- R325. -/
def opRlc (t : Target) (s : State) : Result := opShift (fun v _ => rlc8 v) t s

/-- R326. -/
def opRrc (t : Target) (s : State) : Result := opShift (fun v _ => rrc8 v) t s

/-- R327. -/
def opRl (t : Target) (s : State) : Result := opShift rl8 t s

/-- R328. -/
def opRr (t : Target) (s : State) : Result := opShift rr8 t s

/-- R329. -/
def opSla (t : Target) (s : State) : Result := opShift (fun v _ => sla8 v) t s

/-- R330. -/
def opSra (t : Target) (s : State) : Result := opShift (fun v _ => sra8 v) t s

/-- R331. -/
def opSwap (t : Target) (s : State) : Result := opShift (fun v _ => swap8 v) t s

/-- R332. -/
def opSrl (t : Target) (s : State) : Result := opShift (fun v _ => srl8 v) t s

/-- `RLCA` (R320). -/
def execRlca (s : State) : Result := opRotA (fun v _ => rlc8 v) s

/-- `RRCA` (R321). -/
def execRrca (s : State) : Result := opRotA (fun v _ => rrc8 v) s

/-- `RLA` (R322). -/
def execRla (s : State) : Result := opRotA rl8 s

/-- `RRA` (R323). -/
def execRra (s : State) : Result := opRotA rr8 s

/-- `RLC B` (R325). -/
def execRlcB (s : State) : Result := opRlc (.reg .b) s

/-- `RLC C` (R325). -/
def execRlcC (s : State) : Result := opRlc (.reg .c) s

/-- `RLC D` (R325). -/
def execRlcD (s : State) : Result := opRlc (.reg .d) s

/-- `RLC E` (R325). -/
def execRlcE (s : State) : Result := opRlc (.reg .e) s

/-- `RLC H` (R325). -/
def execRlcH (s : State) : Result := opRlc (.reg .h) s

/-- `RLC L` (R325). -/
def execRlcL (s : State) : Result := opRlc (.reg .l) s

/-- `RLC (HL)` (R325). -/
def execRlcMemHL (s : State) : Result := opRlc .memHL s

/-- `RLC A` (R325). -/
def execRlcA (s : State) : Result := opRlc (.reg .a) s

/-- `RRC B` (R326). -/
def execRrcB (s : State) : Result := opRrc (.reg .b) s

/-- `RRC C` (R326). -/
def execRrcC (s : State) : Result := opRrc (.reg .c) s

/-- `RRC D` (R326). -/
def execRrcD (s : State) : Result := opRrc (.reg .d) s

/-- `RRC E` (R326). -/
def execRrcE (s : State) : Result := opRrc (.reg .e) s

/-- `RRC H` (R326). -/
def execRrcH (s : State) : Result := opRrc (.reg .h) s

/-- `RRC L` (R326). -/
def execRrcL (s : State) : Result := opRrc (.reg .l) s

/-- `RRC (HL)` (R326). -/
def execRrcMemHL (s : State) : Result := opRrc .memHL s

/-- `RRC A` (R326). -/
def execRrcA (s : State) : Result := opRrc (.reg .a) s

/-- `RL B` (R327). -/
def execRlB (s : State) : Result := opRl (.reg .b) s

/-- `RL C` (R327). -/
def execRlC (s : State) : Result := opRl (.reg .c) s

/-- `RL D` (R327). -/
def execRlD (s : State) : Result := opRl (.reg .d) s

/-- `RL E` (R327). -/
def execRlE (s : State) : Result := opRl (.reg .e) s

/-- `RL H` (R327). -/
def execRlH (s : State) : Result := opRl (.reg .h) s

/-- `RL L` (R327). -/
def execRlL (s : State) : Result := opRl (.reg .l) s

/-- `RL (HL)` (R327). -/
def execRlMemHL (s : State) : Result := opRl .memHL s

/-- `RL A` (R327). -/
def execRlA (s : State) : Result := opRl (.reg .a) s

/-- `RR B` (R328). -/
def execRrB (s : State) : Result := opRr (.reg .b) s

/-- `RR C` (R328). -/
def execRrC (s : State) : Result := opRr (.reg .c) s

/-- `RR D` (R328). -/
def execRrD (s : State) : Result := opRr (.reg .d) s

/-- `RR E` (R328). -/
def execRrE (s : State) : Result := opRr (.reg .e) s

/-- `RR H` (R328). -/
def execRrH (s : State) : Result := opRr (.reg .h) s

/-- `RR L` (R328). -/
def execRrL (s : State) : Result := opRr (.reg .l) s

/-- `RR (HL)` (R328). -/
def execRrMemHL (s : State) : Result := opRr .memHL s

/-- `RR A` (R328). -/
def execRrA (s : State) : Result := opRr (.reg .a) s

/-- `SLA B` (R329). -/
def execSlaB (s : State) : Result := opSla (.reg .b) s

/-- `SLA C` (R329). -/
def execSlaC (s : State) : Result := opSla (.reg .c) s

/-- `SLA D` (R329). -/
def execSlaD (s : State) : Result := opSla (.reg .d) s

/-- `SLA E` (R329). -/
def execSlaE (s : State) : Result := opSla (.reg .e) s

/-- `SLA H` (R329). -/
def execSlaH (s : State) : Result := opSla (.reg .h) s

/-- `SLA L` (R329). -/
def execSlaL (s : State) : Result := opSla (.reg .l) s

/-- `SLA (HL)` (R329). -/
def execSlaMemHL (s : State) : Result := opSla .memHL s

/-- `SLA A` (R329). -/
def execSlaA (s : State) : Result := opSla (.reg .a) s

/-- `SRA B` (R330). -/
def execSraB (s : State) : Result := opSra (.reg .b) s

/-- `SRA C` (R330). -/
def execSraC (s : State) : Result := opSra (.reg .c) s

/-- `SRA D` (R330). -/
def execSraD (s : State) : Result := opSra (.reg .d) s

/-- `SRA E` (R330). -/
def execSraE (s : State) : Result := opSra (.reg .e) s

/-- `SRA H` (R330). -/
def execSraH (s : State) : Result := opSra (.reg .h) s

/-- `SRA L` (R330). -/
def execSraL (s : State) : Result := opSra (.reg .l) s

/-- `SRA (HL)` (R330). -/
def execSraMemHL (s : State) : Result := opSra .memHL s

/-- `SRA A` (R330). -/
def execSraA (s : State) : Result := opSra (.reg .a) s

/-- `SWAP B` (R331). -/
def execSwapB (s : State) : Result := opSwap (.reg .b) s

/-- `SWAP C` (R331). -/
def execSwapC (s : State) : Result := opSwap (.reg .c) s

/-- `SWAP D` (R331). -/
def execSwapD (s : State) : Result := opSwap (.reg .d) s

/-- `SWAP E` (R331). -/
def execSwapE (s : State) : Result := opSwap (.reg .e) s

/-- `SWAP H` (R331). -/
def execSwapH (s : State) : Result := opSwap (.reg .h) s

/-- `SWAP L` (R331). -/
def execSwapL (s : State) : Result := opSwap (.reg .l) s

/-- `SWAP (HL)` (R331). -/
def execSwapMemHL (s : State) : Result := opSwap .memHL s

/-- `SWAP A` (R331). -/
def execSwapA (s : State) : Result := opSwap (.reg .a) s

/-- `SRL B` (R332). -/
def execSrlB (s : State) : Result := opSrl (.reg .b) s

/-- `SRL C` (R332). -/
def execSrlC (s : State) : Result := opSrl (.reg .c) s

/-- `SRL D` (R332). -/
def execSrlD (s : State) : Result := opSrl (.reg .d) s

/-- `SRL E` (R332). -/
def execSrlE (s : State) : Result := opSrl (.reg .e) s

/-- `SRL H` (R332). -/
def execSrlH (s : State) : Result := opSrl (.reg .h) s

/-- `SRL L` (R332). -/
def execSrlL (s : State) : Result := opSrl (.reg .l) s

/-- `SRL (HL)` (R332). -/
def execSrlMemHL (s : State) : Result := opSrl .memHL s

/-- `SRL A` (R332). -/
def execSrlA (s : State) : Result := opSrl (.reg .a) s

end Sys2Proof.Machine
end

