-- ==== Sys2Proof/Machine/System.lean ====
section
/-! DEFINITION. System instructions and the eleven illegal bytes (47_system.md R360 to R366). -/

namespace Sys2Proof.Machine

/-- R362, R122 (D51): the speed switch of a CGB that is armed by KEY1 bit 0; otherwise nothing. -/
def speedSwitch (s : State) : State :=
  if s.cart.cgb = true ∧ bitOf (readIo s 0x4D) 0 = true then
    { writeIo s 0x4D (if s.doubleSpeed then 0x00 else 0x80) with doubleSpeed := !s.doubleSpeed }
  else s

/-- R362: `STOP`; its second byte is not examined. -/
def opStop (_skip : Byte) (s : State) : Result := .next (speedSwitch s)

/-- R366: an illegal byte is reported, with its address, and treated as a 1-byte NOP. -/
def opIllegal (op : Byte) (s : State) : Result := .next (report s (.illegalOpcode (s.regs.pc - 1) op))

/-- `NOP` (R360). -/
def execNop (s : State) : Result := .next s

/-- `STOP` (R362). -/
def execStop (skip : Byte) (s : State) : Result := opStop skip s

/-- `HALT` (R361). -/
def execHalt (s : State) : Result := .next { s with mode := .halted }

/-- `ILLEGAL_D3` (R366). -/
def execIllegalD3 (s : State) : Result := opIllegal 0xD3 s

/-- `ILLEGAL_DB` (R366). -/
def execIllegalDB (s : State) : Result := opIllegal 0xDB s

/-- `ILLEGAL_DD` (R366). -/
def execIllegalDD (s : State) : Result := opIllegal 0xDD s

/-- `ILLEGAL_E3` (R366). -/
def execIllegalE3 (s : State) : Result := opIllegal 0xE3 s

/-- `ILLEGAL_E4` (R366). -/
def execIllegalE4 (s : State) : Result := opIllegal 0xE4 s

/-- `ILLEGAL_EB` (R366). -/
def execIllegalEB (s : State) : Result := opIllegal 0xEB s

/-- `ILLEGAL_EC` (R366). -/
def execIllegalEC (s : State) : Result := opIllegal 0xEC s

/-- `ILLEGAL_ED` (R366). -/
def execIllegalED (s : State) : Result := opIllegal 0xED s

/-- `DI` (R363). -/
def execDi (s : State) : Result := .next { s with ime := false, eiDelay := 0 }

/-- `ILLEGAL_F4` (R366). -/
def execIllegalF4 (s : State) : Result := opIllegal 0xF4 s

/-- `EI` (R364). -/
def execEi (s : State) : Result := .next { s with eiDelay := 2 }

/-- `ILLEGAL_FC` (R366). -/
def execIllegalFC (s : State) : Result := opIllegal 0xFC s

/-- `ILLEGAL_FD` (R366). -/
def execIllegalFD (s : State) : Result := opIllegal 0xFD s

end Sys2Proof.Machine
end

