-- ==== Sys2Proof/Syntax.lean ====
section
/-! DEFINITION. The instruction set: one constructor for each of the 511 rows of spec/opcode_table.json (30_encoding.md R204,
R213, R214): 244 primary instructions, 11 illegal bytes, 256 extended instructions behind the prefix 0xCB.
An operand is exactly the bits its encoding has: `n` an 8-bit immediate or port offset, `nn` a 16-bit immediate or address,
`e` the raw byte of a signed displacement (R206), `skip` the second byte of STOP, which is not examined (R362). The constructors with an operand stand first, because Lean's
runtime gives tags only to so many of them; within each part the order is the table's. -/

namespace Sys2Proof

/-- An instruction. Each constructor's docstring gives the assembler spelling (R211), the opcode bytes and the rule. -/
inductive Instr where
  /-- `LD BC,nn`, 0x01 (R280). -/
  | ldBCNn (nn : Word)
  /-- `LD B,n`, 0x06 (R261). -/
  | ldBN (n : Byte)
  /-- `LD (nn),SP`, 0x08 (R281). -/
  | ldMemNnSP (nn : Word)
  /-- `LD C,n`, 0x0E (R261). -/
  | ldCN (n : Byte)
  /-- `STOP`, 0x10 (R362). -/
  | stop (skip : Byte)
  /-- `LD DE,nn`, 0x11 (R280). -/
  | ldDENn (nn : Word)
  /-- `LD D,n`, 0x16 (R261). -/
  | ldDN (n : Byte)
  /-- `JR e`, 0x18 (R344). -/
  | jrE (e : Byte)
  /-- `LD E,n`, 0x1E (R261). -/
  | ldEN (n : Byte)
  /-- `JR NZ,e`, 0x20 (R345). -/
  | jrNZE (e : Byte)
  /-- `LD HL,nn`, 0x21 (R280). -/
  | ldHLNn (nn : Word)
  /-- `LD H,n`, 0x26 (R261). -/
  | ldHN (n : Byte)
  /-- `JR Z,e`, 0x28 (R345). -/
  | jrZE (e : Byte)
  /-- `LD L,n`, 0x2E (R261). -/
  | ldLN (n : Byte)
  /-- `JR NC,e`, 0x30 (R345). -/
  | jrNCE (e : Byte)
  /-- `LD SP,nn`, 0x31 (R280). -/
  | ldSPNn (nn : Word)
  /-- `LD (HL),n`, 0x36 (R264). -/
  | ldMemHLN (n : Byte)
  /-- `JR C,e`, 0x38 (R345). -/
  | jrCE (e : Byte)
  /-- `LD A,n`, 0x3E (R261). -/
  | ldAN (n : Byte)
  /-- `JP NZ,nn`, 0xC2 (R342). -/
  | jpNZNn (nn : Word)
  /-- `JP nn`, 0xC3 (R341). -/
  | jpNn (nn : Word)
  /-- `CALL NZ,nn`, 0xC4 (R347). -/
  | callNZNn (nn : Word)
  /-- `ADD A,n`, 0xC6 (R291). -/
  | addAN (n : Byte)
  /-- `JP Z,nn`, 0xCA (R342). -/
  | jpZNn (nn : Word)
  /-- `CALL Z,nn`, 0xCC (R347). -/
  | callZNn (nn : Word)
  /-- `CALL nn`, 0xCD (R346). -/
  | callNn (nn : Word)
  /-- `ADC A,n`, 0xCE (R292). -/
  | adcAN (n : Byte)
  /-- `JP NC,nn`, 0xD2 (R342). -/
  | jpNCNn (nn : Word)
  /-- `CALL NC,nn`, 0xD4 (R347). -/
  | callNCNn (nn : Word)
  /-- `SUB A,n`, 0xD6 (R293). -/
  | subAN (n : Byte)
  /-- `JP C,nn`, 0xDA (R342). -/
  | jpCNn (nn : Word)
  /-- `CALL C,nn`, 0xDC (R347). -/
  | callCNn (nn : Word)
  /-- `SBC A,n`, 0xDE (R294). -/
  | sbcAN (n : Byte)
  /-- `LDH (n),A`, 0xE0 (R274). -/
  | ldhMemNA (n : Byte)
  /-- `AND A,n`, 0xE6 (R295). -/
  | andAN (n : Byte)
  /-- `ADD SP,e`, 0xE8 (R313). -/
  | addSPE (e : Byte)
  /-- `LD (nn),A`, 0xEA (R270). -/
  | ldMemNnA (nn : Word)
  /-- `XOR A,n`, 0xEE (R296). -/
  | xorAN (n : Byte)
  /-- `LDH A,(n)`, 0xF0 (R273). -/
  | ldhAMemN (n : Byte)
  /-- `OR A,n`, 0xF6 (R297). -/
  | orAN (n : Byte)
  /-- `LD HL,SP+e`, 0xF8 (R283). -/
  | ldHLSPE (e : Byte)
  /-- `LD A,(nn)`, 0xFA (R269). -/
  | ldAMemNn (nn : Word)
  /-- `CP A,n`, 0xFE (R298). -/
  | cpAN (n : Byte)
  /-- `NOP`, 0x00 (R360). -/
  | nop
  /-- `LD (BC),A`, 0x02 (R267). -/
  | ldMemBCA
  /-- `INC BC`, 0x03 (R311). -/
  | incBC
  /-- `INC B`, 0x04 (R299). -/
  | incB
  /-- `DEC B`, 0x05 (R301). -/
  | decB
  /-- `RLCA`, 0x07 (R320). -/
  | rlca
  /-- `ADD HL,BC`, 0x09 (R310). -/
  | addHLBC
  /-- `LD A,(BC)`, 0x0A (R265). -/
  | ldAMemBC
  /-- `DEC BC`, 0x0B (R312). -/
  | decBC
  /-- `INC C`, 0x0C (R299). -/
  | incC
  /-- `DEC C`, 0x0D (R301). -/
  | decC
  /-- `RRCA`, 0x0F (R321). -/
  | rrca
  /-- `LD (DE),A`, 0x12 (R268). -/
  | ldMemDEA
  /-- `INC DE`, 0x13 (R311). -/
  | incDE
  /-- `INC D`, 0x14 (R299). -/
  | incD
  /-- `DEC D`, 0x15 (R301). -/
  | decD
  /-- `RLA`, 0x17 (R322). -/
  | rla
  /-- `ADD HL,DE`, 0x19 (R310). -/
  | addHLDE
  /-- `LD A,(DE)`, 0x1A (R266). -/
  | ldAMemDE
  /-- `DEC DE`, 0x1B (R312). -/
  | decDE
  /-- `INC E`, 0x1C (R299). -/
  | incE
  /-- `DEC E`, 0x1D (R301). -/
  | decE
  /-- `RRA`, 0x1F (R323). -/
  | rra
  /-- `LD (HL+),A`, 0x22 (R275). -/
  | ldMemHLIncA
  /-- `INC HL`, 0x23 (R311). -/
  | incHL
  /-- `INC H`, 0x24 (R299). -/
  | incH
  /-- `DEC H`, 0x25 (R301). -/
  | decH
  /-- `DAA`, 0x27 (R303). -/
  | daa
  /-- `ADD HL,HL`, 0x29 (R310). -/
  | addHLHL
  /-- `LD A,(HL+)`, 0x2A (R276). -/
  | ldAMemHLInc
  /-- `DEC HL`, 0x2B (R312). -/
  | decHL
  /-- `INC L`, 0x2C (R299). -/
  | incL
  /-- `DEC L`, 0x2D (R301). -/
  | decL
  /-- `CPL`, 0x2F (R304). -/
  | cpl
  /-- `LD (HL-),A`, 0x32 (R277). -/
  | ldMemHLDecA
  /-- `INC SP`, 0x33 (R311). -/
  | incSP
  /-- `INC (HL)`, 0x34 (R300). -/
  | incMemHL
  /-- `DEC (HL)`, 0x35 (R302). -/
  | decMemHL
  /-- `SCF`, 0x37 (R305). -/
  | scf
  /-- `ADD HL,SP`, 0x39 (R310). -/
  | addHLSP
  /-- `LD A,(HL-)`, 0x3A (R278). -/
  | ldAMemHLDec
  /-- `DEC SP`, 0x3B (R312). -/
  | decSP
  /-- `INC A`, 0x3C (R299). -/
  | incA
  /-- `DEC A`, 0x3D (R301). -/
  | decA
  /-- `CCF`, 0x3F (R306). -/
  | ccf
  /-- `LD B,B`, 0x40 (R260). -/
  | ldBB
  /-- `LD B,C`, 0x41 (R260). -/
  | ldBC
  /-- `LD B,D`, 0x42 (R260). -/
  | ldBD
  /-- `LD B,E`, 0x43 (R260). -/
  | ldBE
  /-- `LD B,H`, 0x44 (R260). -/
  | ldBH
  /-- `LD B,L`, 0x45 (R260). -/
  | ldBL
  /-- `LD B,(HL)`, 0x46 (R262). -/
  | ldBMemHL
  /-- `LD B,A`, 0x47 (R260). -/
  | ldBA
  /-- `LD C,B`, 0x48 (R260). -/
  | ldCB
  /-- `LD C,C`, 0x49 (R260). -/
  | ldCC
  /-- `LD C,D`, 0x4A (R260). -/
  | ldCD
  /-- `LD C,E`, 0x4B (R260). -/
  | ldCE
  /-- `LD C,H`, 0x4C (R260). -/
  | ldCH
  /-- `LD C,L`, 0x4D (R260). -/
  | ldCL
  /-- `LD C,(HL)`, 0x4E (R262). -/
  | ldCMemHL
  /-- `LD C,A`, 0x4F (R260). -/
  | ldCA
  /-- `LD D,B`, 0x50 (R260). -/
  | ldDB
  /-- `LD D,C`, 0x51 (R260). -/
  | ldDC
  /-- `LD D,D`, 0x52 (R260). -/
  | ldDD
  /-- `LD D,E`, 0x53 (R260). -/
  | ldDE
  /-- `LD D,H`, 0x54 (R260). -/
  | ldDH
  /-- `LD D,L`, 0x55 (R260). -/
  | ldDL
  /-- `LD D,(HL)`, 0x56 (R262). -/
  | ldDMemHL
  /-- `LD D,A`, 0x57 (R260). -/
  | ldDA
  /-- `LD E,B`, 0x58 (R260). -/
  | ldEB
  /-- `LD E,C`, 0x59 (R260). -/
  | ldEC
  /-- `LD E,D`, 0x5A (R260). -/
  | ldED
  /-- `LD E,E`, 0x5B (R260). -/
  | ldEE
  /-- `LD E,H`, 0x5C (R260). -/
  | ldEH
  /-- `LD E,L`, 0x5D (R260). -/
  | ldEL
  /-- `LD E,(HL)`, 0x5E (R262). -/
  | ldEMemHL
  /-- `LD E,A`, 0x5F (R260). -/
  | ldEA
  /-- `LD H,B`, 0x60 (R260). -/
  | ldHB
  /-- `LD H,C`, 0x61 (R260). -/
  | ldHC
  /-- `LD H,D`, 0x62 (R260). -/
  | ldHD
  /-- `LD H,E`, 0x63 (R260). -/
  | ldHE
  /-- `LD H,H`, 0x64 (R260). -/
  | ldHH
  /-- `LD H,L`, 0x65 (R260). -/
  | ldHL
  /-- `LD H,(HL)`, 0x66 (R262). -/
  | ldHMemHL
  /-- `LD H,A`, 0x67 (R260). -/
  | ldHA
  /-- `LD L,B`, 0x68 (R260). -/
  | ldLB
  /-- `LD L,C`, 0x69 (R260). -/
  | ldLC
  /-- `LD L,D`, 0x6A (R260). -/
  | ldLD
  /-- `LD L,E`, 0x6B (R260). -/
  | ldLE
  /-- `LD L,H`, 0x6C (R260). -/
  | ldLH
  /-- `LD L,L`, 0x6D (R260). -/
  | ldLL
  /-- `LD L,(HL)`, 0x6E (R262). -/
  | ldLMemHL
  /-- `LD L,A`, 0x6F (R260). -/
  | ldLA
  /-- `LD (HL),B`, 0x70 (R263). -/
  | ldMemHLB
  /-- `LD (HL),C`, 0x71 (R263). -/
  | ldMemHLC
  /-- `LD (HL),D`, 0x72 (R263). -/
  | ldMemHLD
  /-- `LD (HL),E`, 0x73 (R263). -/
  | ldMemHLE
  /-- `LD (HL),H`, 0x74 (R263). -/
  | ldMemHLH
  /-- `LD (HL),L`, 0x75 (R263). -/
  | ldMemHLL
  /-- `HALT`, 0x76 (R361). -/
  | halt
  /-- `LD (HL),A`, 0x77 (R263). -/
  | ldMemHLA
  /-- `LD A,B`, 0x78 (R260). -/
  | ldAB
  /-- `LD A,C`, 0x79 (R260). -/
  | ldAC
  /-- `LD A,D`, 0x7A (R260). -/
  | ldAD
  /-- `LD A,E`, 0x7B (R260). -/
  | ldAE
  /-- `LD A,H`, 0x7C (R260). -/
  | ldAH
  /-- `LD A,L`, 0x7D (R260). -/
  | ldAL
  /-- `LD A,(HL)`, 0x7E (R262). -/
  | ldAMemHL
  /-- `LD A,A`, 0x7F (R260). -/
  | ldAA
  /-- `ADD A,B`, 0x80 (R291). -/
  | addAB
  /-- `ADD A,C`, 0x81 (R291). -/
  | addAC
  /-- `ADD A,D`, 0x82 (R291). -/
  | addAD
  /-- `ADD A,E`, 0x83 (R291). -/
  | addAE
  /-- `ADD A,H`, 0x84 (R291). -/
  | addAH
  /-- `ADD A,L`, 0x85 (R291). -/
  | addAL
  /-- `ADD A,(HL)`, 0x86 (R291). -/
  | addAMemHL
  /-- `ADD A,A`, 0x87 (R291). -/
  | addAA
  /-- `ADC A,B`, 0x88 (R292). -/
  | adcAB
  /-- `ADC A,C`, 0x89 (R292). -/
  | adcAC
  /-- `ADC A,D`, 0x8A (R292). -/
  | adcAD
  /-- `ADC A,E`, 0x8B (R292). -/
  | adcAE
  /-- `ADC A,H`, 0x8C (R292). -/
  | adcAH
  /-- `ADC A,L`, 0x8D (R292). -/
  | adcAL
  /-- `ADC A,(HL)`, 0x8E (R292). -/
  | adcAMemHL
  /-- `ADC A,A`, 0x8F (R292). -/
  | adcAA
  /-- `SUB A,B`, 0x90 (R293). -/
  | subAB
  /-- `SUB A,C`, 0x91 (R293). -/
  | subAC
  /-- `SUB A,D`, 0x92 (R293). -/
  | subAD
  /-- `SUB A,E`, 0x93 (R293). -/
  | subAE
  /-- `SUB A,H`, 0x94 (R293). -/
  | subAH
  /-- `SUB A,L`, 0x95 (R293). -/
  | subAL
  /-- `SUB A,(HL)`, 0x96 (R293). -/
  | subAMemHL
  /-- `SUB A,A`, 0x97 (R293). -/
  | subAA
  /-- `SBC A,B`, 0x98 (R294). -/
  | sbcAB
  /-- `SBC A,C`, 0x99 (R294). -/
  | sbcAC
  /-- `SBC A,D`, 0x9A (R294). -/
  | sbcAD
  /-- `SBC A,E`, 0x9B (R294). -/
  | sbcAE
  /-- `SBC A,H`, 0x9C (R294). -/
  | sbcAH
  /-- `SBC A,L`, 0x9D (R294). -/
  | sbcAL
  /-- `SBC A,(HL)`, 0x9E (R294). -/
  | sbcAMemHL
  /-- `SBC A,A`, 0x9F (R294). -/
  | sbcAA
  /-- `AND A,B`, 0xA0 (R295). -/
  | andAB
  /-- `AND A,C`, 0xA1 (R295). -/
  | andAC
  /-- `AND A,D`, 0xA2 (R295). -/
  | andAD
  /-- `AND A,E`, 0xA3 (R295). -/
  | andAE
  /-- `AND A,H`, 0xA4 (R295). -/
  | andAH
  /-- `AND A,L`, 0xA5 (R295). -/
  | andAL
  /-- `AND A,(HL)`, 0xA6 (R295). -/
  | andAMemHL
  /-- `AND A,A`, 0xA7 (R295). -/
  | andAA
  /-- `XOR A,B`, 0xA8 (R296). -/
  | xorAB
  /-- `XOR A,C`, 0xA9 (R296). -/
  | xorAC
  /-- `XOR A,D`, 0xAA (R296). -/
  | xorAD
  /-- `XOR A,E`, 0xAB (R296). -/
  | xorAE
  /-- `XOR A,H`, 0xAC (R296). -/
  | xorAH
  /-- `XOR A,L`, 0xAD (R296). -/
  | xorAL
  /-- `XOR A,(HL)`, 0xAE (R296). -/
  | xorAMemHL
  /-- `XOR A,A`, 0xAF (R296). -/
  | xorAA
  /-- `OR A,B`, 0xB0 (R297). -/
  | orAB
  /-- `OR A,C`, 0xB1 (R297). -/
  | orAC
  /-- `OR A,D`, 0xB2 (R297). -/
  | orAD
  /-- `OR A,E`, 0xB3 (R297). -/
  | orAE
  /-- `OR A,H`, 0xB4 (R297). -/
  | orAH
  /-- `OR A,L`, 0xB5 (R297). -/
  | orAL
  /-- `OR A,(HL)`, 0xB6 (R297). -/
  | orAMemHL
  /-- `OR A,A`, 0xB7 (R297). -/
  | orAA
  /-- `CP A,B`, 0xB8 (R298). -/
  | cpAB
  /-- `CP A,C`, 0xB9 (R298). -/
  | cpAC
  /-- `CP A,D`, 0xBA (R298). -/
  | cpAD
  /-- `CP A,E`, 0xBB (R298). -/
  | cpAE
  /-- `CP A,H`, 0xBC (R298). -/
  | cpAH
  /-- `CP A,L`, 0xBD (R298). -/
  | cpAL
  /-- `CP A,(HL)`, 0xBE (R298). -/
  | cpAMemHL
  /-- `CP A,A`, 0xBF (R298). -/
  | cpAA
  /-- `RET NZ`, 0xC0 (R349). -/
  | retNZ
  /-- `POP BC`, 0xC1 (R287). -/
  | popBC
  /-- `PUSH BC`, 0xC5 (R284). -/
  | pushBC
  /-- `RST 00H`, 0xC7 (R351). -/
  | rst00
  /-- `RET Z`, 0xC8 (R349). -/
  | retZ
  /-- `RET`, 0xC9 (R348). -/
  | ret
  /-- `RST 08H`, 0xCF (R351). -/
  | rst08
  /-- `RET NC`, 0xD0 (R349). -/
  | retNC
  /-- `POP DE`, 0xD1 (R287). -/
  | popDE
  /-- `ILLEGAL_D3`, 0xD3 (R366). -/
  | illegalD3
  /-- `PUSH DE`, 0xD5 (R284). -/
  | pushDE
  /-- `RST 10H`, 0xD7 (R351). -/
  | rst10
  /-- `RET C`, 0xD8 (R349). -/
  | retC
  /-- `RETI`, 0xD9 (R350). -/
  | reti
  /-- `ILLEGAL_DB`, 0xDB (R366). -/
  | illegalDB
  /-- `ILLEGAL_DD`, 0xDD (R366). -/
  | illegalDD
  /-- `RST 18H`, 0xDF (R351). -/
  | rst18
  /-- `POP HL`, 0xE1 (R287). -/
  | popHL
  /-- `LDH (C),A`, 0xE2 (R272). -/
  | ldhMemCA
  /-- `ILLEGAL_E3`, 0xE3 (R366). -/
  | illegalE3
  /-- `ILLEGAL_E4`, 0xE4 (R366). -/
  | illegalE4
  /-- `PUSH HL`, 0xE5 (R284). -/
  | pushHL
  /-- `RST 20H`, 0xE7 (R351). -/
  | rst20
  /-- `JP HL`, 0xE9 (R343). -/
  | jpHL
  /-- `ILLEGAL_EB`, 0xEB (R366). -/
  | illegalEB
  /-- `ILLEGAL_EC`, 0xEC (R366). -/
  | illegalEC
  /-- `ILLEGAL_ED`, 0xED (R366). -/
  | illegalED
  /-- `RST 28H`, 0xEF (R351). -/
  | rst28
  /-- `POP AF`, 0xF1 (R288). -/
  | popAF
  /-- `LDH A,(C)`, 0xF2 (R271). -/
  | ldhAMemC
  /-- `DI`, 0xF3 (R363). -/
  | di
  /-- `ILLEGAL_F4`, 0xF4 (R366). -/
  | illegalF4
  /-- `PUSH AF`, 0xF5 (R284). -/
  | pushAF
  /-- `RST 30H`, 0xF7 (R351). -/
  | rst30
  /-- `LD SP,HL`, 0xF9 (R282). -/
  | ldSPHL
  /-- `EI`, 0xFB (R364). -/
  | ei
  /-- `ILLEGAL_FC`, 0xFC (R366). -/
  | illegalFC
  /-- `ILLEGAL_FD`, 0xFD (R366). -/
  | illegalFD
  /-- `RST 38H`, 0xFF (R351). -/
  | rst38
  /-- `RLC B`, 0xCB 0x00 (R325). -/
  | rlcB
  /-- `RLC C`, 0xCB 0x01 (R325). -/
  | rlcC
  /-- `RLC D`, 0xCB 0x02 (R325). -/
  | rlcD
  /-- `RLC E`, 0xCB 0x03 (R325). -/
  | rlcE
  /-- `RLC H`, 0xCB 0x04 (R325). -/
  | rlcH
  /-- `RLC L`, 0xCB 0x05 (R325). -/
  | rlcL
  /-- `RLC (HL)`, 0xCB 0x06 (R325). -/
  | rlcMemHL
  /-- `RLC A`, 0xCB 0x07 (R325). -/
  | rlcA
  /-- `RRC B`, 0xCB 0x08 (R326). -/
  | rrcB
  /-- `RRC C`, 0xCB 0x09 (R326). -/
  | rrcC
  /-- `RRC D`, 0xCB 0x0A (R326). -/
  | rrcD
  /-- `RRC E`, 0xCB 0x0B (R326). -/
  | rrcE
  /-- `RRC H`, 0xCB 0x0C (R326). -/
  | rrcH
  /-- `RRC L`, 0xCB 0x0D (R326). -/
  | rrcL
  /-- `RRC (HL)`, 0xCB 0x0E (R326). -/
  | rrcMemHL
  /-- `RRC A`, 0xCB 0x0F (R326). -/
  | rrcA
  /-- `RL B`, 0xCB 0x10 (R327). -/
  | rlB
  /-- `RL C`, 0xCB 0x11 (R327). -/
  | rlC
  /-- `RL D`, 0xCB 0x12 (R327). -/
  | rlD
  /-- `RL E`, 0xCB 0x13 (R327). -/
  | rlE
  /-- `RL H`, 0xCB 0x14 (R327). -/
  | rlH
  /-- `RL L`, 0xCB 0x15 (R327). -/
  | rlL
  /-- `RL (HL)`, 0xCB 0x16 (R327). -/
  | rlMemHL
  /-- `RL A`, 0xCB 0x17 (R327). -/
  | rlA
  /-- `RR B`, 0xCB 0x18 (R328). -/
  | rrB
  /-- `RR C`, 0xCB 0x19 (R328). -/
  | rrC
  /-- `RR D`, 0xCB 0x1A (R328). -/
  | rrD
  /-- `RR E`, 0xCB 0x1B (R328). -/
  | rrE
  /-- `RR H`, 0xCB 0x1C (R328). -/
  | rrH
  /-- `RR L`, 0xCB 0x1D (R328). -/
  | rrL
  /-- `RR (HL)`, 0xCB 0x1E (R328). -/
  | rrMemHL
  /-- `RR A`, 0xCB 0x1F (R328). -/
  | rrA
  /-- `SLA B`, 0xCB 0x20 (R329). -/
  | slaB
  /-- `SLA C`, 0xCB 0x21 (R329). -/
  | slaC
  /-- `SLA D`, 0xCB 0x22 (R329). -/
  | slaD
  /-- `SLA E`, 0xCB 0x23 (R329). -/
  | slaE
  /-- `SLA H`, 0xCB 0x24 (R329). -/
  | slaH
  /-- `SLA L`, 0xCB 0x25 (R329). -/
  | slaL
  /-- `SLA (HL)`, 0xCB 0x26 (R329). -/
  | slaMemHL
  /-- `SLA A`, 0xCB 0x27 (R329). -/
  | slaA
  /-- `SRA B`, 0xCB 0x28 (R330). -/
  | sraB
  /-- `SRA C`, 0xCB 0x29 (R330). -/
  | sraC
  /-- `SRA D`, 0xCB 0x2A (R330). -/
  | sraD
  /-- `SRA E`, 0xCB 0x2B (R330). -/
  | sraE
  /-- `SRA H`, 0xCB 0x2C (R330). -/
  | sraH
  /-- `SRA L`, 0xCB 0x2D (R330). -/
  | sraL
  /-- `SRA (HL)`, 0xCB 0x2E (R330). -/
  | sraMemHL
  /-- `SRA A`, 0xCB 0x2F (R330). -/
  | sraA
  /-- `SWAP B`, 0xCB 0x30 (R331). -/
  | swapB
  /-- `SWAP C`, 0xCB 0x31 (R331). -/
  | swapC
  /-- `SWAP D`, 0xCB 0x32 (R331). -/
  | swapD
  /-- `SWAP E`, 0xCB 0x33 (R331). -/
  | swapE
  /-- `SWAP H`, 0xCB 0x34 (R331). -/
  | swapH
  /-- `SWAP L`, 0xCB 0x35 (R331). -/
  | swapL
  /-- `SWAP (HL)`, 0xCB 0x36 (R331). -/
  | swapMemHL
  /-- `SWAP A`, 0xCB 0x37 (R331). -/
  | swapA
  /-- `SRL B`, 0xCB 0x38 (R332). -/
  | srlB
  /-- `SRL C`, 0xCB 0x39 (R332). -/
  | srlC
  /-- `SRL D`, 0xCB 0x3A (R332). -/
  | srlD
  /-- `SRL E`, 0xCB 0x3B (R332). -/
  | srlE
  /-- `SRL H`, 0xCB 0x3C (R332). -/
  | srlH
  /-- `SRL L`, 0xCB 0x3D (R332). -/
  | srlL
  /-- `SRL (HL)`, 0xCB 0x3E (R332). -/
  | srlMemHL
  /-- `SRL A`, 0xCB 0x3F (R332). -/
  | srlA
  /-- `BIT 0,B`, 0xCB 0x40 (R333). -/
  | bit0B
  /-- `BIT 0,C`, 0xCB 0x41 (R333). -/
  | bit0C
  /-- `BIT 0,D`, 0xCB 0x42 (R333). -/
  | bit0D
  /-- `BIT 0,E`, 0xCB 0x43 (R333). -/
  | bit0E
  /-- `BIT 0,H`, 0xCB 0x44 (R333). -/
  | bit0H
  /-- `BIT 0,L`, 0xCB 0x45 (R333). -/
  | bit0L
  /-- `BIT 0,(HL)`, 0xCB 0x46 (R333). -/
  | bit0MemHL
  /-- `BIT 0,A`, 0xCB 0x47 (R333). -/
  | bit0A
  /-- `BIT 1,B`, 0xCB 0x48 (R333). -/
  | bit1B
  /-- `BIT 1,C`, 0xCB 0x49 (R333). -/
  | bit1C
  /-- `BIT 1,D`, 0xCB 0x4A (R333). -/
  | bit1D
  /-- `BIT 1,E`, 0xCB 0x4B (R333). -/
  | bit1E
  /-- `BIT 1,H`, 0xCB 0x4C (R333). -/
  | bit1H
  /-- `BIT 1,L`, 0xCB 0x4D (R333). -/
  | bit1L
  /-- `BIT 1,(HL)`, 0xCB 0x4E (R333). -/
  | bit1MemHL
  /-- `BIT 1,A`, 0xCB 0x4F (R333). -/
  | bit1A
  /-- `BIT 2,B`, 0xCB 0x50 (R333). -/
  | bit2B
  /-- `BIT 2,C`, 0xCB 0x51 (R333). -/
  | bit2C
  /-- `BIT 2,D`, 0xCB 0x52 (R333). -/
  | bit2D
  /-- `BIT 2,E`, 0xCB 0x53 (R333). -/
  | bit2E
  /-- `BIT 2,H`, 0xCB 0x54 (R333). -/
  | bit2H
  /-- `BIT 2,L`, 0xCB 0x55 (R333). -/
  | bit2L
  /-- `BIT 2,(HL)`, 0xCB 0x56 (R333). -/
  | bit2MemHL
  /-- `BIT 2,A`, 0xCB 0x57 (R333). -/
  | bit2A
  /-- `BIT 3,B`, 0xCB 0x58 (R333). -/
  | bit3B
  /-- `BIT 3,C`, 0xCB 0x59 (R333). -/
  | bit3C
  /-- `BIT 3,D`, 0xCB 0x5A (R333). -/
  | bit3D
  /-- `BIT 3,E`, 0xCB 0x5B (R333). -/
  | bit3E
  /-- `BIT 3,H`, 0xCB 0x5C (R333). -/
  | bit3H
  /-- `BIT 3,L`, 0xCB 0x5D (R333). -/
  | bit3L
  /-- `BIT 3,(HL)`, 0xCB 0x5E (R333). -/
  | bit3MemHL
  /-- `BIT 3,A`, 0xCB 0x5F (R333). -/
  | bit3A
  /-- `BIT 4,B`, 0xCB 0x60 (R333). -/
  | bit4B
  /-- `BIT 4,C`, 0xCB 0x61 (R333). -/
  | bit4C
  /-- `BIT 4,D`, 0xCB 0x62 (R333). -/
  | bit4D
  /-- `BIT 4,E`, 0xCB 0x63 (R333). -/
  | bit4E
  /-- `BIT 4,H`, 0xCB 0x64 (R333). -/
  | bit4H
  /-- `BIT 4,L`, 0xCB 0x65 (R333). -/
  | bit4L
  /-- `BIT 4,(HL)`, 0xCB 0x66 (R333). -/
  | bit4MemHL
  /-- `BIT 4,A`, 0xCB 0x67 (R333). -/
  | bit4A
  /-- `BIT 5,B`, 0xCB 0x68 (R333). -/
  | bit5B
  /-- `BIT 5,C`, 0xCB 0x69 (R333). -/
  | bit5C
  /-- `BIT 5,D`, 0xCB 0x6A (R333). -/
  | bit5D
  /-- `BIT 5,E`, 0xCB 0x6B (R333). -/
  | bit5E
  /-- `BIT 5,H`, 0xCB 0x6C (R333). -/
  | bit5H
  /-- `BIT 5,L`, 0xCB 0x6D (R333). -/
  | bit5L
  /-- `BIT 5,(HL)`, 0xCB 0x6E (R333). -/
  | bit5MemHL
  /-- `BIT 5,A`, 0xCB 0x6F (R333). -/
  | bit5A
  /-- `BIT 6,B`, 0xCB 0x70 (R333). -/
  | bit6B
  /-- `BIT 6,C`, 0xCB 0x71 (R333). -/
  | bit6C
  /-- `BIT 6,D`, 0xCB 0x72 (R333). -/
  | bit6D
  /-- `BIT 6,E`, 0xCB 0x73 (R333). -/
  | bit6E
  /-- `BIT 6,H`, 0xCB 0x74 (R333). -/
  | bit6H
  /-- `BIT 6,L`, 0xCB 0x75 (R333). -/
  | bit6L
  /-- `BIT 6,(HL)`, 0xCB 0x76 (R333). -/
  | bit6MemHL
  /-- `BIT 6,A`, 0xCB 0x77 (R333). -/
  | bit6A
  /-- `BIT 7,B`, 0xCB 0x78 (R333). -/
  | bit7B
  /-- `BIT 7,C`, 0xCB 0x79 (R333). -/
  | bit7C
  /-- `BIT 7,D`, 0xCB 0x7A (R333). -/
  | bit7D
  /-- `BIT 7,E`, 0xCB 0x7B (R333). -/
  | bit7E
  /-- `BIT 7,H`, 0xCB 0x7C (R333). -/
  | bit7H
  /-- `BIT 7,L`, 0xCB 0x7D (R333). -/
  | bit7L
  /-- `BIT 7,(HL)`, 0xCB 0x7E (R333). -/
  | bit7MemHL
  /-- `BIT 7,A`, 0xCB 0x7F (R333). -/
  | bit7A
  /-- `RES 0,B`, 0xCB 0x80 (R334). -/
  | res0B
  /-- `RES 0,C`, 0xCB 0x81 (R334). -/
  | res0C
  /-- `RES 0,D`, 0xCB 0x82 (R334). -/
  | res0D
  /-- `RES 0,E`, 0xCB 0x83 (R334). -/
  | res0E
  /-- `RES 0,H`, 0xCB 0x84 (R334). -/
  | res0H
  /-- `RES 0,L`, 0xCB 0x85 (R334). -/
  | res0L
  /-- `RES 0,(HL)`, 0xCB 0x86 (R334). -/
  | res0MemHL
  /-- `RES 0,A`, 0xCB 0x87 (R334). -/
  | res0A
  /-- `RES 1,B`, 0xCB 0x88 (R334). -/
  | res1B
  /-- `RES 1,C`, 0xCB 0x89 (R334). -/
  | res1C
  /-- `RES 1,D`, 0xCB 0x8A (R334). -/
  | res1D
  /-- `RES 1,E`, 0xCB 0x8B (R334). -/
  | res1E
  /-- `RES 1,H`, 0xCB 0x8C (R334). -/
  | res1H
  /-- `RES 1,L`, 0xCB 0x8D (R334). -/
  | res1L
  /-- `RES 1,(HL)`, 0xCB 0x8E (R334). -/
  | res1MemHL
  /-- `RES 1,A`, 0xCB 0x8F (R334). -/
  | res1A
  /-- `RES 2,B`, 0xCB 0x90 (R334). -/
  | res2B
  /-- `RES 2,C`, 0xCB 0x91 (R334). -/
  | res2C
  /-- `RES 2,D`, 0xCB 0x92 (R334). -/
  | res2D
  /-- `RES 2,E`, 0xCB 0x93 (R334). -/
  | res2E
  /-- `RES 2,H`, 0xCB 0x94 (R334). -/
  | res2H
  /-- `RES 2,L`, 0xCB 0x95 (R334). -/
  | res2L
  /-- `RES 2,(HL)`, 0xCB 0x96 (R334). -/
  | res2MemHL
  /-- `RES 2,A`, 0xCB 0x97 (R334). -/
  | res2A
  /-- `RES 3,B`, 0xCB 0x98 (R334). -/
  | res3B
  /-- `RES 3,C`, 0xCB 0x99 (R334). -/
  | res3C
  /-- `RES 3,D`, 0xCB 0x9A (R334). -/
  | res3D
  /-- `RES 3,E`, 0xCB 0x9B (R334). -/
  | res3E
  /-- `RES 3,H`, 0xCB 0x9C (R334). -/
  | res3H
  /-- `RES 3,L`, 0xCB 0x9D (R334). -/
  | res3L
  /-- `RES 3,(HL)`, 0xCB 0x9E (R334). -/
  | res3MemHL
  /-- `RES 3,A`, 0xCB 0x9F (R334). -/
  | res3A
  /-- `RES 4,B`, 0xCB 0xA0 (R334). -/
  | res4B
  /-- `RES 4,C`, 0xCB 0xA1 (R334). -/
  | res4C
  /-- `RES 4,D`, 0xCB 0xA2 (R334). -/
  | res4D
  /-- `RES 4,E`, 0xCB 0xA3 (R334). -/
  | res4E
  /-- `RES 4,H`, 0xCB 0xA4 (R334). -/
  | res4H
  /-- `RES 4,L`, 0xCB 0xA5 (R334). -/
  | res4L
  /-- `RES 4,(HL)`, 0xCB 0xA6 (R334). -/
  | res4MemHL
  /-- `RES 4,A`, 0xCB 0xA7 (R334). -/
  | res4A
  /-- `RES 5,B`, 0xCB 0xA8 (R334). -/
  | res5B
  /-- `RES 5,C`, 0xCB 0xA9 (R334). -/
  | res5C
  /-- `RES 5,D`, 0xCB 0xAA (R334). -/
  | res5D
  /-- `RES 5,E`, 0xCB 0xAB (R334). -/
  | res5E
  /-- `RES 5,H`, 0xCB 0xAC (R334). -/
  | res5H
  /-- `RES 5,L`, 0xCB 0xAD (R334). -/
  | res5L
  /-- `RES 5,(HL)`, 0xCB 0xAE (R334). -/
  | res5MemHL
  /-- `RES 5,A`, 0xCB 0xAF (R334). -/
  | res5A
  /-- `RES 6,B`, 0xCB 0xB0 (R334). -/
  | res6B
  /-- `RES 6,C`, 0xCB 0xB1 (R334). -/
  | res6C
  /-- `RES 6,D`, 0xCB 0xB2 (R334). -/
  | res6D
  /-- `RES 6,E`, 0xCB 0xB3 (R334). -/
  | res6E
  /-- `RES 6,H`, 0xCB 0xB4 (R334). -/
  | res6H
  /-- `RES 6,L`, 0xCB 0xB5 (R334). -/
  | res6L
  /-- `RES 6,(HL)`, 0xCB 0xB6 (R334). -/
  | res6MemHL
  /-- `RES 6,A`, 0xCB 0xB7 (R334). -/
  | res6A
  /-- `RES 7,B`, 0xCB 0xB8 (R334). -/
  | res7B
  /-- `RES 7,C`, 0xCB 0xB9 (R334). -/
  | res7C
  /-- `RES 7,D`, 0xCB 0xBA (R334). -/
  | res7D
  /-- `RES 7,E`, 0xCB 0xBB (R334). -/
  | res7E
  /-- `RES 7,H`, 0xCB 0xBC (R334). -/
  | res7H
  /-- `RES 7,L`, 0xCB 0xBD (R334). -/
  | res7L
  /-- `RES 7,(HL)`, 0xCB 0xBE (R334). -/
  | res7MemHL
  /-- `RES 7,A`, 0xCB 0xBF (R334). -/
  | res7A
  /-- `SET 0,B`, 0xCB 0xC0 (R335). -/
  | set0B
  /-- `SET 0,C`, 0xCB 0xC1 (R335). -/
  | set0C
  /-- `SET 0,D`, 0xCB 0xC2 (R335). -/
  | set0D
  /-- `SET 0,E`, 0xCB 0xC3 (R335). -/
  | set0E
  /-- `SET 0,H`, 0xCB 0xC4 (R335). -/
  | set0H
  /-- `SET 0,L`, 0xCB 0xC5 (R335). -/
  | set0L
  /-- `SET 0,(HL)`, 0xCB 0xC6 (R335). -/
  | set0MemHL
  /-- `SET 0,A`, 0xCB 0xC7 (R335). -/
  | set0A
  /-- `SET 1,B`, 0xCB 0xC8 (R335). -/
  | set1B
  /-- `SET 1,C`, 0xCB 0xC9 (R335). -/
  | set1C
  /-- `SET 1,D`, 0xCB 0xCA (R335). -/
  | set1D
  /-- `SET 1,E`, 0xCB 0xCB (R335). -/
  | set1E
  /-- `SET 1,H`, 0xCB 0xCC (R335). -/
  | set1H
  /-- `SET 1,L`, 0xCB 0xCD (R335). -/
  | set1L
  /-- `SET 1,(HL)`, 0xCB 0xCE (R335). -/
  | set1MemHL
  /-- `SET 1,A`, 0xCB 0xCF (R335). -/
  | set1A
  /-- `SET 2,B`, 0xCB 0xD0 (R335). -/
  | set2B
  /-- `SET 2,C`, 0xCB 0xD1 (R335). -/
  | set2C
  /-- `SET 2,D`, 0xCB 0xD2 (R335). -/
  | set2D
  /-- `SET 2,E`, 0xCB 0xD3 (R335). -/
  | set2E
  /-- `SET 2,H`, 0xCB 0xD4 (R335). -/
  | set2H
  /-- `SET 2,L`, 0xCB 0xD5 (R335). -/
  | set2L
  /-- `SET 2,(HL)`, 0xCB 0xD6 (R335). -/
  | set2MemHL
  /-- `SET 2,A`, 0xCB 0xD7 (R335). -/
  | set2A
  /-- `SET 3,B`, 0xCB 0xD8 (R335). -/
  | set3B
  /-- `SET 3,C`, 0xCB 0xD9 (R335). -/
  | set3C
  /-- `SET 3,D`, 0xCB 0xDA (R335). -/
  | set3D
  /-- `SET 3,E`, 0xCB 0xDB (R335). -/
  | set3E
  /-- `SET 3,H`, 0xCB 0xDC (R335). -/
  | set3H
  /-- `SET 3,L`, 0xCB 0xDD (R335). -/
  | set3L
  /-- `SET 3,(HL)`, 0xCB 0xDE (R335). -/
  | set3MemHL
  /-- `SET 3,A`, 0xCB 0xDF (R335). -/
  | set3A
  /-- `SET 4,B`, 0xCB 0xE0 (R335). -/
  | set4B
  /-- `SET 4,C`, 0xCB 0xE1 (R335). -/
  | set4C
  /-- `SET 4,D`, 0xCB 0xE2 (R335). -/
  | set4D
  /-- `SET 4,E`, 0xCB 0xE3 (R335). -/
  | set4E
  /-- `SET 4,H`, 0xCB 0xE4 (R335). -/
  | set4H
  /-- `SET 4,L`, 0xCB 0xE5 (R335). -/
  | set4L
  /-- `SET 4,(HL)`, 0xCB 0xE6 (R335). -/
  | set4MemHL
  /-- `SET 4,A`, 0xCB 0xE7 (R335). -/
  | set4A
  /-- `SET 5,B`, 0xCB 0xE8 (R335). -/
  | set5B
  /-- `SET 5,C`, 0xCB 0xE9 (R335). -/
  | set5C
  /-- `SET 5,D`, 0xCB 0xEA (R335). -/
  | set5D
  /-- `SET 5,E`, 0xCB 0xEB (R335). -/
  | set5E
  /-- `SET 5,H`, 0xCB 0xEC (R335). -/
  | set5H
  /-- `SET 5,L`, 0xCB 0xED (R335). -/
  | set5L
  /-- `SET 5,(HL)`, 0xCB 0xEE (R335). -/
  | set5MemHL
  /-- `SET 5,A`, 0xCB 0xEF (R335). -/
  | set5A
  /-- `SET 6,B`, 0xCB 0xF0 (R335). -/
  | set6B
  /-- `SET 6,C`, 0xCB 0xF1 (R335). -/
  | set6C
  /-- `SET 6,D`, 0xCB 0xF2 (R335). -/
  | set6D
  /-- `SET 6,E`, 0xCB 0xF3 (R335). -/
  | set6E
  /-- `SET 6,H`, 0xCB 0xF4 (R335). -/
  | set6H
  /-- `SET 6,L`, 0xCB 0xF5 (R335). -/
  | set6L
  /-- `SET 6,(HL)`, 0xCB 0xF6 (R335). -/
  | set6MemHL
  /-- `SET 6,A`, 0xCB 0xF7 (R335). -/
  | set6A
  /-- `SET 7,B`, 0xCB 0xF8 (R335). -/
  | set7B
  /-- `SET 7,C`, 0xCB 0xF9 (R335). -/
  | set7C
  /-- `SET 7,D`, 0xCB 0xFA (R335). -/
  | set7D
  /-- `SET 7,E`, 0xCB 0xFB (R335). -/
  | set7E
  /-- `SET 7,H`, 0xCB 0xFC (R335). -/
  | set7H
  /-- `SET 7,L`, 0xCB 0xFD (R335). -/
  | set7L
  /-- `SET 7,(HL)`, 0xCB 0xFE (R335). -/
  | set7MemHL
  /-- `SET 7,A`, 0xCB 0xFF (R335). -/
  | set7A
  deriving DecidableEq, Repr

end Sys2Proof
end

