-- ==== Sys2Proof/WellFormed.lean ====
section
/-! DEFINITION. Well-formedness of instructions and of the byte strings that encode them (30_encoding.md R200, R201, R203). -/

namespace Sys2Proof

/-- Every term of `Instr` is well-formed: an operand's type holds exactly the values its encoding admits, every one of
which is legal (R209: "no reserved-for-future encodings"; R362: the second byte of STOP is not examined). -/
def Instr.wellFormed (_ : Instr) : Bool := true

/-- The shape of one instruction's bytes: one to three of them (R200), and exactly two where the first is the prefix
0xCB (R203). How many bytes each first byte takes is `instrLength` (Decode.lean, R207). -/
def codeWellFormed : List Byte → Bool
  | [] => false
  | op :: rest => if op = 0xCB then rest.length == 1 else decide (rest.length ≤ 2)

end Sys2Proof
end

