-- ==== Sys2Proof/Decode.lean ====
section
/-! DEFINITION. Decoding and encoding (30_encoding.md). The two tables are R213 (row = high nibble of the opcode byte) and
R214; lengths are R207. `decode` is total on any first byte; `decodeBytes` rejects by name a byte string that ends early. -/

namespace Sys2Proof

/-- Element `n` of a list, `d` beyond its end. -/
def pick {α : Type} (d : α) : List α → Nat → α
  | [], _ => d
  | x :: _, 0 => x
  | _ :: xs, n + 1 => pick d xs n

/-- R214, second bytes 0x00-0x0F after the prefix 0xCB. -/
def extendedRow0 : List Instr :=
  [.rlcB, .rlcC, .rlcD, .rlcE, .rlcH, .rlcL, .rlcMemHL, .rlcA, .rrcB, .rrcC, .rrcD, .rrcE, .rrcH, .rrcL,
   .rrcMemHL, .rrcA]

/-- R214, second bytes 0x10-0x1F after the prefix 0xCB. -/
def extendedRow1 : List Instr :=
  [.rlB, .rlC, .rlD, .rlE, .rlH, .rlL, .rlMemHL, .rlA, .rrB, .rrC, .rrD, .rrE, .rrH, .rrL, .rrMemHL, .rrA]

/-- R214, second bytes 0x20-0x2F after the prefix 0xCB. -/
def extendedRow2 : List Instr :=
  [.slaB, .slaC, .slaD, .slaE, .slaH, .slaL, .slaMemHL, .slaA, .sraB, .sraC, .sraD, .sraE, .sraH, .sraL,
   .sraMemHL, .sraA]

/-- R214, second bytes 0x30-0x3F after the prefix 0xCB. -/
def extendedRow3 : List Instr :=
  [.swapB, .swapC, .swapD, .swapE, .swapH, .swapL, .swapMemHL, .swapA, .srlB, .srlC, .srlD, .srlE, .srlH, .srlL,
   .srlMemHL, .srlA]

/-- R214, second bytes 0x40-0x4F after the prefix 0xCB. -/
def extendedRow4 : List Instr :=
  [.bit0B, .bit0C, .bit0D, .bit0E, .bit0H, .bit0L, .bit0MemHL, .bit0A, .bit1B, .bit1C, .bit1D, .bit1E, .bit1H,
   .bit1L, .bit1MemHL, .bit1A]

/-- R214, second bytes 0x50-0x5F after the prefix 0xCB. -/
def extendedRow5 : List Instr :=
  [.bit2B, .bit2C, .bit2D, .bit2E, .bit2H, .bit2L, .bit2MemHL, .bit2A, .bit3B, .bit3C, .bit3D, .bit3E, .bit3H,
   .bit3L, .bit3MemHL, .bit3A]

/-- R214, second bytes 0x60-0x6F after the prefix 0xCB. -/
def extendedRow6 : List Instr :=
  [.bit4B, .bit4C, .bit4D, .bit4E, .bit4H, .bit4L, .bit4MemHL, .bit4A, .bit5B, .bit5C, .bit5D, .bit5E, .bit5H,
   .bit5L, .bit5MemHL, .bit5A]

/-- R214, second bytes 0x70-0x7F after the prefix 0xCB. -/
def extendedRow7 : List Instr :=
  [.bit6B, .bit6C, .bit6D, .bit6E, .bit6H, .bit6L, .bit6MemHL, .bit6A, .bit7B, .bit7C, .bit7D, .bit7E, .bit7H,
   .bit7L, .bit7MemHL, .bit7A]

/-- R214, second bytes 0x80-0x8F after the prefix 0xCB. -/
def extendedRow8 : List Instr :=
  [.res0B, .res0C, .res0D, .res0E, .res0H, .res0L, .res0MemHL, .res0A, .res1B, .res1C, .res1D, .res1E, .res1H,
   .res1L, .res1MemHL, .res1A]

/-- R214, second bytes 0x90-0x9F after the prefix 0xCB. -/
def extendedRow9 : List Instr :=
  [.res2B, .res2C, .res2D, .res2E, .res2H, .res2L, .res2MemHL, .res2A, .res3B, .res3C, .res3D, .res3E, .res3H,
   .res3L, .res3MemHL, .res3A]

/-- R214, second bytes 0xA0-0xAF after the prefix 0xCB. -/
def extendedRowA : List Instr :=
  [.res4B, .res4C, .res4D, .res4E, .res4H, .res4L, .res4MemHL, .res4A, .res5B, .res5C, .res5D, .res5E, .res5H,
   .res5L, .res5MemHL, .res5A]

/-- R214, second bytes 0xB0-0xBF after the prefix 0xCB. -/
def extendedRowB : List Instr :=
  [.res6B, .res6C, .res6D, .res6E, .res6H, .res6L, .res6MemHL, .res6A, .res7B, .res7C, .res7D, .res7E, .res7H,
   .res7L, .res7MemHL, .res7A]

/-- R214, second bytes 0xC0-0xCF after the prefix 0xCB. -/
def extendedRowC : List Instr :=
  [.set0B, .set0C, .set0D, .set0E, .set0H, .set0L, .set0MemHL, .set0A, .set1B, .set1C, .set1D, .set1E, .set1H,
   .set1L, .set1MemHL, .set1A]

/-- R214, second bytes 0xD0-0xDF after the prefix 0xCB. -/
def extendedRowD : List Instr :=
  [.set2B, .set2C, .set2D, .set2E, .set2H, .set2L, .set2MemHL, .set2A, .set3B, .set3C, .set3D, .set3E, .set3H,
   .set3L, .set3MemHL, .set3A]

/-- R214, second bytes 0xE0-0xEF after the prefix 0xCB. -/
def extendedRowE : List Instr :=
  [.set4B, .set4C, .set4D, .set4E, .set4H, .set4L, .set4MemHL, .set4A, .set5B, .set5C, .set5D, .set5E, .set5H,
   .set5L, .set5MemHL, .set5A]

/-- R214, second bytes 0xF0-0xFF after the prefix 0xCB. -/
def extendedRowF : List Instr :=
  [.set6B, .set6C, .set6D, .set6E, .set6H, .set6L, .set6MemHL, .set6A, .set7B, .set7C, .set7D, .set7E, .set7H,
   .set7L, .set7MemHL, .set7A]

/-- R214: the extended table, by high nibble of the second byte. -/
def extendedTable : List (List Instr) :=
  [extendedRow0, extendedRow1, extendedRow2, extendedRow3, extendedRow4, extendedRow5, extendedRow6, extendedRow7,
   extendedRow8, extendedRow9, extendedRowA, extendedRowB, extendedRowC, extendedRowD, extendedRowE, extendedRowF]

/-- R203, R324: the instruction that the second byte selects after 0xCB; all 256 are defined. -/
def decodeExtended (op2 : Byte) : Instr := pick .nop (pick [] extendedTable (op2.toNat / 16)) (op2.toNat % 16)

/-- R213, row 0x: opcode bytes 0x00-0x0F, applied to the two operand bytes. -/
def primaryRow0 : List (Byte → Byte → Instr) :=
  [fun _ _ => .nop, fun b1 b2 => .ldBCNn (Machine.joinBytes b2 b1), fun _ _ => .ldMemBCA, fun _ _ => .incBC,
   fun _ _ => .incB, fun _ _ => .decB, fun b1 _ => .ldBN b1, fun _ _ => .rlca,
   fun b1 b2 => .ldMemNnSP (Machine.joinBytes b2 b1), fun _ _ => .addHLBC, fun _ _ => .ldAMemBC,
   fun _ _ => .decBC, fun _ _ => .incC, fun _ _ => .decC, fun b1 _ => .ldCN b1, fun _ _ => .rrca]

/-- R213, row 1x: opcode bytes 0x10-0x1F, applied to the two operand bytes. -/
def primaryRow1 : List (Byte → Byte → Instr) :=
  [fun b1 _ => .stop b1, fun b1 b2 => .ldDENn (Machine.joinBytes b2 b1), fun _ _ => .ldMemDEA, fun _ _ => .incDE,
   fun _ _ => .incD, fun _ _ => .decD, fun b1 _ => .ldDN b1, fun _ _ => .rla, fun b1 _ => .jrE b1,
   fun _ _ => .addHLDE, fun _ _ => .ldAMemDE, fun _ _ => .decDE, fun _ _ => .incE, fun _ _ => .decE,
   fun b1 _ => .ldEN b1, fun _ _ => .rra]

/-- R213, row 2x: opcode bytes 0x20-0x2F, applied to the two operand bytes. -/
def primaryRow2 : List (Byte → Byte → Instr) :=
  [fun b1 _ => .jrNZE b1, fun b1 b2 => .ldHLNn (Machine.joinBytes b2 b1), fun _ _ => .ldMemHLIncA,
   fun _ _ => .incHL, fun _ _ => .incH, fun _ _ => .decH, fun b1 _ => .ldHN b1, fun _ _ => .daa,
   fun b1 _ => .jrZE b1, fun _ _ => .addHLHL, fun _ _ => .ldAMemHLInc, fun _ _ => .decHL, fun _ _ => .incL,
   fun _ _ => .decL, fun b1 _ => .ldLN b1, fun _ _ => .cpl]

/-- R213, row 3x: opcode bytes 0x30-0x3F, applied to the two operand bytes. -/
def primaryRow3 : List (Byte → Byte → Instr) :=
  [fun b1 _ => .jrNCE b1, fun b1 b2 => .ldSPNn (Machine.joinBytes b2 b1), fun _ _ => .ldMemHLDecA,
   fun _ _ => .incSP, fun _ _ => .incMemHL, fun _ _ => .decMemHL, fun b1 _ => .ldMemHLN b1, fun _ _ => .scf,
   fun b1 _ => .jrCE b1, fun _ _ => .addHLSP, fun _ _ => .ldAMemHLDec, fun _ _ => .decSP, fun _ _ => .incA,
   fun _ _ => .decA, fun b1 _ => .ldAN b1, fun _ _ => .ccf]

/-- R213, row 4x: opcode bytes 0x40-0x4F, applied to the two operand bytes. -/
def primaryRow4 : List (Byte → Byte → Instr) :=
  [fun _ _ => .ldBB, fun _ _ => .ldBC, fun _ _ => .ldBD, fun _ _ => .ldBE, fun _ _ => .ldBH, fun _ _ => .ldBL,
   fun _ _ => .ldBMemHL, fun _ _ => .ldBA, fun _ _ => .ldCB, fun _ _ => .ldCC, fun _ _ => .ldCD, fun _ _ => .ldCE,
   fun _ _ => .ldCH, fun _ _ => .ldCL, fun _ _ => .ldCMemHL, fun _ _ => .ldCA]

/-- R213, row 5x: opcode bytes 0x50-0x5F, applied to the two operand bytes. -/
def primaryRow5 : List (Byte → Byte → Instr) :=
  [fun _ _ => .ldDB, fun _ _ => .ldDC, fun _ _ => .ldDD, fun _ _ => .ldDE, fun _ _ => .ldDH, fun _ _ => .ldDL,
   fun _ _ => .ldDMemHL, fun _ _ => .ldDA, fun _ _ => .ldEB, fun _ _ => .ldEC, fun _ _ => .ldED, fun _ _ => .ldEE,
   fun _ _ => .ldEH, fun _ _ => .ldEL, fun _ _ => .ldEMemHL, fun _ _ => .ldEA]

/-- R213, row 6x: opcode bytes 0x60-0x6F, applied to the two operand bytes. -/
def primaryRow6 : List (Byte → Byte → Instr) :=
  [fun _ _ => .ldHB, fun _ _ => .ldHC, fun _ _ => .ldHD, fun _ _ => .ldHE, fun _ _ => .ldHH, fun _ _ => .ldHL,
   fun _ _ => .ldHMemHL, fun _ _ => .ldHA, fun _ _ => .ldLB, fun _ _ => .ldLC, fun _ _ => .ldLD, fun _ _ => .ldLE,
   fun _ _ => .ldLH, fun _ _ => .ldLL, fun _ _ => .ldLMemHL, fun _ _ => .ldLA]

/-- R213, row 7x: opcode bytes 0x70-0x7F, applied to the two operand bytes. -/
def primaryRow7 : List (Byte → Byte → Instr) :=
  [fun _ _ => .ldMemHLB, fun _ _ => .ldMemHLC, fun _ _ => .ldMemHLD, fun _ _ => .ldMemHLE, fun _ _ => .ldMemHLH,
   fun _ _ => .ldMemHLL, fun _ _ => .halt, fun _ _ => .ldMemHLA, fun _ _ => .ldAB, fun _ _ => .ldAC,
   fun _ _ => .ldAD, fun _ _ => .ldAE, fun _ _ => .ldAH, fun _ _ => .ldAL, fun _ _ => .ldAMemHL, fun _ _ => .ldAA]

/-- R213, row 8x: opcode bytes 0x80-0x8F, applied to the two operand bytes. -/
def primaryRow8 : List (Byte → Byte → Instr) :=
  [fun _ _ => .addAB, fun _ _ => .addAC, fun _ _ => .addAD, fun _ _ => .addAE, fun _ _ => .addAH,
   fun _ _ => .addAL, fun _ _ => .addAMemHL, fun _ _ => .addAA, fun _ _ => .adcAB, fun _ _ => .adcAC,
   fun _ _ => .adcAD, fun _ _ => .adcAE, fun _ _ => .adcAH, fun _ _ => .adcAL, fun _ _ => .adcAMemHL,
   fun _ _ => .adcAA]

/-- R213, row 9x: opcode bytes 0x90-0x9F, applied to the two operand bytes. -/
def primaryRow9 : List (Byte → Byte → Instr) :=
  [fun _ _ => .subAB, fun _ _ => .subAC, fun _ _ => .subAD, fun _ _ => .subAE, fun _ _ => .subAH,
   fun _ _ => .subAL, fun _ _ => .subAMemHL, fun _ _ => .subAA, fun _ _ => .sbcAB, fun _ _ => .sbcAC,
   fun _ _ => .sbcAD, fun _ _ => .sbcAE, fun _ _ => .sbcAH, fun _ _ => .sbcAL, fun _ _ => .sbcAMemHL,
   fun _ _ => .sbcAA]

/-- R213, row Ax: opcode bytes 0xA0-0xAF, applied to the two operand bytes. -/
def primaryRowA : List (Byte → Byte → Instr) :=
  [fun _ _ => .andAB, fun _ _ => .andAC, fun _ _ => .andAD, fun _ _ => .andAE, fun _ _ => .andAH,
   fun _ _ => .andAL, fun _ _ => .andAMemHL, fun _ _ => .andAA, fun _ _ => .xorAB, fun _ _ => .xorAC,
   fun _ _ => .xorAD, fun _ _ => .xorAE, fun _ _ => .xorAH, fun _ _ => .xorAL, fun _ _ => .xorAMemHL,
   fun _ _ => .xorAA]

/-- R213, row Bx: opcode bytes 0xB0-0xBF, applied to the two operand bytes. -/
def primaryRowB : List (Byte → Byte → Instr) :=
  [fun _ _ => .orAB, fun _ _ => .orAC, fun _ _ => .orAD, fun _ _ => .orAE, fun _ _ => .orAH, fun _ _ => .orAL,
   fun _ _ => .orAMemHL, fun _ _ => .orAA, fun _ _ => .cpAB, fun _ _ => .cpAC, fun _ _ => .cpAD, fun _ _ => .cpAE,
   fun _ _ => .cpAH, fun _ _ => .cpAL, fun _ _ => .cpAMemHL, fun _ _ => .cpAA]

/-- R213, row Cx: opcode bytes 0xC0-0xCF, applied to the two operand bytes. -/
def primaryRowC : List (Byte → Byte → Instr) :=
  [fun _ _ => .retNZ, fun _ _ => .popBC, fun b1 b2 => .jpNZNn (Machine.joinBytes b2 b1),
   fun b1 b2 => .jpNn (Machine.joinBytes b2 b1), fun b1 b2 => .callNZNn (Machine.joinBytes b2 b1),
   fun _ _ => .pushBC, fun b1 _ => .addAN b1, fun _ _ => .rst00, fun _ _ => .retZ, fun _ _ => .ret,
   fun b1 b2 => .jpZNn (Machine.joinBytes b2 b1), fun b1 _ => decodeExtended b1,
   fun b1 b2 => .callZNn (Machine.joinBytes b2 b1), fun b1 b2 => .callNn (Machine.joinBytes b2 b1),
   fun b1 _ => .adcAN b1, fun _ _ => .rst08]

/-- R213, row Dx: opcode bytes 0xD0-0xDF, applied to the two operand bytes. -/
def primaryRowD : List (Byte → Byte → Instr) :=
  [fun _ _ => .retNC, fun _ _ => .popDE, fun b1 b2 => .jpNCNn (Machine.joinBytes b2 b1), fun _ _ => .illegalD3,
   fun b1 b2 => .callNCNn (Machine.joinBytes b2 b1), fun _ _ => .pushDE, fun b1 _ => .subAN b1, fun _ _ => .rst10,
   fun _ _ => .retC, fun _ _ => .reti, fun b1 b2 => .jpCNn (Machine.joinBytes b2 b1), fun _ _ => .illegalDB,
   fun b1 b2 => .callCNn (Machine.joinBytes b2 b1), fun _ _ => .illegalDD, fun b1 _ => .sbcAN b1,
   fun _ _ => .rst18]

/-- R213, row Ex: opcode bytes 0xE0-0xEF, applied to the two operand bytes. -/
def primaryRowE : List (Byte → Byte → Instr) :=
  [fun b1 _ => .ldhMemNA b1, fun _ _ => .popHL, fun _ _ => .ldhMemCA, fun _ _ => .illegalE3,
   fun _ _ => .illegalE4, fun _ _ => .pushHL, fun b1 _ => .andAN b1, fun _ _ => .rst20, fun b1 _ => .addSPE b1,
   fun _ _ => .jpHL, fun b1 b2 => .ldMemNnA (Machine.joinBytes b2 b1), fun _ _ => .illegalEB,
   fun _ _ => .illegalEC, fun _ _ => .illegalED, fun b1 _ => .xorAN b1, fun _ _ => .rst28]

/-- R213, row Fx: opcode bytes 0xF0-0xFF, applied to the two operand bytes. -/
def primaryRowF : List (Byte → Byte → Instr) :=
  [fun b1 _ => .ldhAMemN b1, fun _ _ => .popAF, fun _ _ => .ldhAMemC, fun _ _ => .di, fun _ _ => .illegalF4,
   fun _ _ => .pushAF, fun b1 _ => .orAN b1, fun _ _ => .rst30, fun b1 _ => .ldHLSPE b1, fun _ _ => .ldSPHL,
   fun b1 b2 => .ldAMemNn (Machine.joinBytes b2 b1), fun _ _ => .ei, fun _ _ => .illegalFC, fun _ _ => .illegalFD,
   fun b1 _ => .cpAN b1, fun _ _ => .rst38]

/-- R213: the primary table, by high nibble of the opcode byte. -/
def primaryTable : List (List (Byte → Byte → Instr)) :=
  [primaryRow0, primaryRow1, primaryRow2, primaryRow3, primaryRow4, primaryRow5, primaryRow6, primaryRow7,
   primaryRow8, primaryRow9, primaryRowA, primaryRowB, primaryRowC, primaryRowD, primaryRowE, primaryRowF]

/-- R203, R205: the instruction selected by the opcode byte and the operand bytes `b1`, `b2` (not read where the
instruction has none). -/
def decode (op b1 b2 : Byte) : Instr := pick (fun _ _ => .nop) (pick [] primaryTable (op.toNat / 16)) (op.toNat % 16) b1 b2

/-- R207: the first bytes of three-byte instructions. -/
def threeByteOps : List Byte :=
  [0x01, 0x11, 0x21, 0x31, 0x08, 0xC2, 0xCA, 0xD2, 0xDA, 0xC3, 0xC4, 0xCC, 0xD4, 0xDC, 0xCD, 0xEA, 0xFA]

/-- R207: the first bytes of two-byte instructions, the prefix 0xCB apart. -/
def twoByteOps : List Byte :=
  [0x06, 0x0E, 0x16, 0x1E, 0x26, 0x2E, 0x36, 0x3E, 0x10, 0x18, 0x20, 0x28, 0x30, 0x38, 0xC6, 0xCE, 0xD6, 0xDE,
   0xE6, 0xEE, 0xF6, 0xFE, 0xE0, 0xF0, 0xE8, 0xF8]

/-- R207: `Length(op)`. -/
def instrLength (op : Byte) : Nat :=
  if op = 0xCB then 2 else if threeByteOps.contains op then 3 else if twoByteOps.contains op then 2 else 1

/-- Why a byte string holds no instruction. Every first byte has a meaning (R204), so only its end can be missing. -/
inductive DecodeError where
  /-- No byte at all. -/
  | empty
  /-- The operand bytes that R207 asks for after `op` are missing. -/
  | truncated (op : Byte)
  deriving DecidableEq, Repr

/-- R200, R205: the first instruction of a byte string and the rest of the string. -/
def decodeBytes : List Byte → Except DecodeError (Instr × List Byte)
  | [] => .error .empty
  | op :: rest =>
    match instrLength op, rest with
    | 1, rest => .ok (decode op 0x00 0x00, rest)
    | 2, b1 :: rest => .ok (decode op b1 0x00, rest)
    | 3, b1 :: b2 :: rest => .ok (decode op b1 b2, rest)
    | _, _ => .error (.truncated op)

/-- R206: a 16-bit operand in the instruction stream, the low byte at the lower address. -/
def wordBytes (w : Word) : List Byte := [Machine.loByte w, Machine.hiByte w]

/-- The bytes of an instruction, byte 0 first (R201, R207, R213, R214). -/
def encode : Instr → List Byte
  | .nop => [0x00]
  | .ldBCNn nn => 0x01 :: wordBytes nn
  | .ldMemBCA => [0x02]
  | .incBC => [0x03]
  | .incB => [0x04]
  | .decB => [0x05]
  | .ldBN n => [0x06, n]
  | .rlca => [0x07]
  | .ldMemNnSP nn => 0x08 :: wordBytes nn
  | .addHLBC => [0x09]
  | .ldAMemBC => [0x0A]
  | .decBC => [0x0B]
  | .incC => [0x0C]
  | .decC => [0x0D]
  | .ldCN n => [0x0E, n]
  | .rrca => [0x0F]
  | .stop skip => [0x10, skip]
  | .ldDENn nn => 0x11 :: wordBytes nn
  | .ldMemDEA => [0x12]
  | .incDE => [0x13]
  | .incD => [0x14]
  | .decD => [0x15]
  | .ldDN n => [0x16, n]
  | .rla => [0x17]
  | .jrE e => [0x18, e]
  | .addHLDE => [0x19]
  | .ldAMemDE => [0x1A]
  | .decDE => [0x1B]
  | .incE => [0x1C]
  | .decE => [0x1D]
  | .ldEN n => [0x1E, n]
  | .rra => [0x1F]
  | .jrNZE e => [0x20, e]
  | .ldHLNn nn => 0x21 :: wordBytes nn
  | .ldMemHLIncA => [0x22]
  | .incHL => [0x23]
  | .incH => [0x24]
  | .decH => [0x25]
  | .ldHN n => [0x26, n]
  | .daa => [0x27]
  | .jrZE e => [0x28, e]
  | .addHLHL => [0x29]
  | .ldAMemHLInc => [0x2A]
  | .decHL => [0x2B]
  | .incL => [0x2C]
  | .decL => [0x2D]
  | .ldLN n => [0x2E, n]
  | .cpl => [0x2F]
  | .jrNCE e => [0x30, e]
  | .ldSPNn nn => 0x31 :: wordBytes nn
  | .ldMemHLDecA => [0x32]
  | .incSP => [0x33]
  | .incMemHL => [0x34]
  | .decMemHL => [0x35]
  | .ldMemHLN n => [0x36, n]
  | .scf => [0x37]
  | .jrCE e => [0x38, e]
  | .addHLSP => [0x39]
  | .ldAMemHLDec => [0x3A]
  | .decSP => [0x3B]
  | .incA => [0x3C]
  | .decA => [0x3D]
  | .ldAN n => [0x3E, n]
  | .ccf => [0x3F]
  | .ldBB => [0x40]
  | .ldBC => [0x41]
  | .ldBD => [0x42]
  | .ldBE => [0x43]
  | .ldBH => [0x44]
  | .ldBL => [0x45]
  | .ldBMemHL => [0x46]
  | .ldBA => [0x47]
  | .ldCB => [0x48]
  | .ldCC => [0x49]
  | .ldCD => [0x4A]
  | .ldCE => [0x4B]
  | .ldCH => [0x4C]
  | .ldCL => [0x4D]
  | .ldCMemHL => [0x4E]
  | .ldCA => [0x4F]
  | .ldDB => [0x50]
  | .ldDC => [0x51]
  | .ldDD => [0x52]
  | .ldDE => [0x53]
  | .ldDH => [0x54]
  | .ldDL => [0x55]
  | .ldDMemHL => [0x56]
  | .ldDA => [0x57]
  | .ldEB => [0x58]
  | .ldEC => [0x59]
  | .ldED => [0x5A]
  | .ldEE => [0x5B]
  | .ldEH => [0x5C]
  | .ldEL => [0x5D]
  | .ldEMemHL => [0x5E]
  | .ldEA => [0x5F]
  | .ldHB => [0x60]
  | .ldHC => [0x61]
  | .ldHD => [0x62]
  | .ldHE => [0x63]
  | .ldHH => [0x64]
  | .ldHL => [0x65]
  | .ldHMemHL => [0x66]
  | .ldHA => [0x67]
  | .ldLB => [0x68]
  | .ldLC => [0x69]
  | .ldLD => [0x6A]
  | .ldLE => [0x6B]
  | .ldLH => [0x6C]
  | .ldLL => [0x6D]
  | .ldLMemHL => [0x6E]
  | .ldLA => [0x6F]
  | .ldMemHLB => [0x70]
  | .ldMemHLC => [0x71]
  | .ldMemHLD => [0x72]
  | .ldMemHLE => [0x73]
  | .ldMemHLH => [0x74]
  | .ldMemHLL => [0x75]
  | .halt => [0x76]
  | .ldMemHLA => [0x77]
  | .ldAB => [0x78]
  | .ldAC => [0x79]
  | .ldAD => [0x7A]
  | .ldAE => [0x7B]
  | .ldAH => [0x7C]
  | .ldAL => [0x7D]
  | .ldAMemHL => [0x7E]
  | .ldAA => [0x7F]
  | .addAB => [0x80]
  | .addAC => [0x81]
  | .addAD => [0x82]
  | .addAE => [0x83]
  | .addAH => [0x84]
  | .addAL => [0x85]
  | .addAMemHL => [0x86]
  | .addAA => [0x87]
  | .adcAB => [0x88]
  | .adcAC => [0x89]
  | .adcAD => [0x8A]
  | .adcAE => [0x8B]
  | .adcAH => [0x8C]
  | .adcAL => [0x8D]
  | .adcAMemHL => [0x8E]
  | .adcAA => [0x8F]
  | .subAB => [0x90]
  | .subAC => [0x91]
  | .subAD => [0x92]
  | .subAE => [0x93]
  | .subAH => [0x94]
  | .subAL => [0x95]
  | .subAMemHL => [0x96]
  | .subAA => [0x97]
  | .sbcAB => [0x98]
  | .sbcAC => [0x99]
  | .sbcAD => [0x9A]
  | .sbcAE => [0x9B]
  | .sbcAH => [0x9C]
  | .sbcAL => [0x9D]
  | .sbcAMemHL => [0x9E]
  | .sbcAA => [0x9F]
  | .andAB => [0xA0]
  | .andAC => [0xA1]
  | .andAD => [0xA2]
  | .andAE => [0xA3]
  | .andAH => [0xA4]
  | .andAL => [0xA5]
  | .andAMemHL => [0xA6]
  | .andAA => [0xA7]
  | .xorAB => [0xA8]
  | .xorAC => [0xA9]
  | .xorAD => [0xAA]
  | .xorAE => [0xAB]
  | .xorAH => [0xAC]
  | .xorAL => [0xAD]
  | .xorAMemHL => [0xAE]
  | .xorAA => [0xAF]
  | .orAB => [0xB0]
  | .orAC => [0xB1]
  | .orAD => [0xB2]
  | .orAE => [0xB3]
  | .orAH => [0xB4]
  | .orAL => [0xB5]
  | .orAMemHL => [0xB6]
  | .orAA => [0xB7]
  | .cpAB => [0xB8]
  | .cpAC => [0xB9]
  | .cpAD => [0xBA]
  | .cpAE => [0xBB]
  | .cpAH => [0xBC]
  | .cpAL => [0xBD]
  | .cpAMemHL => [0xBE]
  | .cpAA => [0xBF]
  | .retNZ => [0xC0]
  | .popBC => [0xC1]
  | .jpNZNn nn => 0xC2 :: wordBytes nn
  | .jpNn nn => 0xC3 :: wordBytes nn
  | .callNZNn nn => 0xC4 :: wordBytes nn
  | .pushBC => [0xC5]
  | .addAN n => [0xC6, n]
  | .rst00 => [0xC7]
  | .retZ => [0xC8]
  | .ret => [0xC9]
  | .jpZNn nn => 0xCA :: wordBytes nn
  | .callZNn nn => 0xCC :: wordBytes nn
  | .callNn nn => 0xCD :: wordBytes nn
  | .adcAN n => [0xCE, n]
  | .rst08 => [0xCF]
  | .retNC => [0xD0]
  | .popDE => [0xD1]
  | .jpNCNn nn => 0xD2 :: wordBytes nn
  | .illegalD3 => [0xD3]
  | .callNCNn nn => 0xD4 :: wordBytes nn
  | .pushDE => [0xD5]
  | .subAN n => [0xD6, n]
  | .rst10 => [0xD7]
  | .retC => [0xD8]
  | .reti => [0xD9]
  | .jpCNn nn => 0xDA :: wordBytes nn
  | .illegalDB => [0xDB]
  | .callCNn nn => 0xDC :: wordBytes nn
  | .illegalDD => [0xDD]
  | .sbcAN n => [0xDE, n]
  | .rst18 => [0xDF]
  | .ldhMemNA n => [0xE0, n]
  | .popHL => [0xE1]
  | .ldhMemCA => [0xE2]
  | .illegalE3 => [0xE3]
  | .illegalE4 => [0xE4]
  | .pushHL => [0xE5]
  | .andAN n => [0xE6, n]
  | .rst20 => [0xE7]
  | .addSPE e => [0xE8, e]
  | .jpHL => [0xE9]
  | .ldMemNnA nn => 0xEA :: wordBytes nn
  | .illegalEB => [0xEB]
  | .illegalEC => [0xEC]
  | .illegalED => [0xED]
  | .xorAN n => [0xEE, n]
  | .rst28 => [0xEF]
  | .ldhAMemN n => [0xF0, n]
  | .popAF => [0xF1]
  | .ldhAMemC => [0xF2]
  | .di => [0xF3]
  | .illegalF4 => [0xF4]
  | .pushAF => [0xF5]
  | .orAN n => [0xF6, n]
  | .rst30 => [0xF7]
  | .ldHLSPE e => [0xF8, e]
  | .ldSPHL => [0xF9]
  | .ldAMemNn nn => 0xFA :: wordBytes nn
  | .ei => [0xFB]
  | .illegalFC => [0xFC]
  | .illegalFD => [0xFD]
  | .cpAN n => [0xFE, n]
  | .rst38 => [0xFF]
  | .rlcB => [0xCB, 0x00]
  | .rlcC => [0xCB, 0x01]
  | .rlcD => [0xCB, 0x02]
  | .rlcE => [0xCB, 0x03]
  | .rlcH => [0xCB, 0x04]
  | .rlcL => [0xCB, 0x05]
  | .rlcMemHL => [0xCB, 0x06]
  | .rlcA => [0xCB, 0x07]
  | .rrcB => [0xCB, 0x08]
  | .rrcC => [0xCB, 0x09]
  | .rrcD => [0xCB, 0x0A]
  | .rrcE => [0xCB, 0x0B]
  | .rrcH => [0xCB, 0x0C]
  | .rrcL => [0xCB, 0x0D]
  | .rrcMemHL => [0xCB, 0x0E]
  | .rrcA => [0xCB, 0x0F]
  | .rlB => [0xCB, 0x10]
  | .rlC => [0xCB, 0x11]
  | .rlD => [0xCB, 0x12]
  | .rlE => [0xCB, 0x13]
  | .rlH => [0xCB, 0x14]
  | .rlL => [0xCB, 0x15]
  | .rlMemHL => [0xCB, 0x16]
  | .rlA => [0xCB, 0x17]
  | .rrB => [0xCB, 0x18]
  | .rrC => [0xCB, 0x19]
  | .rrD => [0xCB, 0x1A]
  | .rrE => [0xCB, 0x1B]
  | .rrH => [0xCB, 0x1C]
  | .rrL => [0xCB, 0x1D]
  | .rrMemHL => [0xCB, 0x1E]
  | .rrA => [0xCB, 0x1F]
  | .slaB => [0xCB, 0x20]
  | .slaC => [0xCB, 0x21]
  | .slaD => [0xCB, 0x22]
  | .slaE => [0xCB, 0x23]
  | .slaH => [0xCB, 0x24]
  | .slaL => [0xCB, 0x25]
  | .slaMemHL => [0xCB, 0x26]
  | .slaA => [0xCB, 0x27]
  | .sraB => [0xCB, 0x28]
  | .sraC => [0xCB, 0x29]
  | .sraD => [0xCB, 0x2A]
  | .sraE => [0xCB, 0x2B]
  | .sraH => [0xCB, 0x2C]
  | .sraL => [0xCB, 0x2D]
  | .sraMemHL => [0xCB, 0x2E]
  | .sraA => [0xCB, 0x2F]
  | .swapB => [0xCB, 0x30]
  | .swapC => [0xCB, 0x31]
  | .swapD => [0xCB, 0x32]
  | .swapE => [0xCB, 0x33]
  | .swapH => [0xCB, 0x34]
  | .swapL => [0xCB, 0x35]
  | .swapMemHL => [0xCB, 0x36]
  | .swapA => [0xCB, 0x37]
  | .srlB => [0xCB, 0x38]
  | .srlC => [0xCB, 0x39]
  | .srlD => [0xCB, 0x3A]
  | .srlE => [0xCB, 0x3B]
  | .srlH => [0xCB, 0x3C]
  | .srlL => [0xCB, 0x3D]
  | .srlMemHL => [0xCB, 0x3E]
  | .srlA => [0xCB, 0x3F]
  | .bit0B => [0xCB, 0x40]
  | .bit0C => [0xCB, 0x41]
  | .bit0D => [0xCB, 0x42]
  | .bit0E => [0xCB, 0x43]
  | .bit0H => [0xCB, 0x44]
  | .bit0L => [0xCB, 0x45]
  | .bit0MemHL => [0xCB, 0x46]
  | .bit0A => [0xCB, 0x47]
  | .bit1B => [0xCB, 0x48]
  | .bit1C => [0xCB, 0x49]
  | .bit1D => [0xCB, 0x4A]
  | .bit1E => [0xCB, 0x4B]
  | .bit1H => [0xCB, 0x4C]
  | .bit1L => [0xCB, 0x4D]
  | .bit1MemHL => [0xCB, 0x4E]
  | .bit1A => [0xCB, 0x4F]
  | .bit2B => [0xCB, 0x50]
  | .bit2C => [0xCB, 0x51]
  | .bit2D => [0xCB, 0x52]
  | .bit2E => [0xCB, 0x53]
  | .bit2H => [0xCB, 0x54]
  | .bit2L => [0xCB, 0x55]
  | .bit2MemHL => [0xCB, 0x56]
  | .bit2A => [0xCB, 0x57]
  | .bit3B => [0xCB, 0x58]
  | .bit3C => [0xCB, 0x59]
  | .bit3D => [0xCB, 0x5A]
  | .bit3E => [0xCB, 0x5B]
  | .bit3H => [0xCB, 0x5C]
  | .bit3L => [0xCB, 0x5D]
  | .bit3MemHL => [0xCB, 0x5E]
  | .bit3A => [0xCB, 0x5F]
  | .bit4B => [0xCB, 0x60]
  | .bit4C => [0xCB, 0x61]
  | .bit4D => [0xCB, 0x62]
  | .bit4E => [0xCB, 0x63]
  | .bit4H => [0xCB, 0x64]
  | .bit4L => [0xCB, 0x65]
  | .bit4MemHL => [0xCB, 0x66]
  | .bit4A => [0xCB, 0x67]
  | .bit5B => [0xCB, 0x68]
  | .bit5C => [0xCB, 0x69]
  | .bit5D => [0xCB, 0x6A]
  | .bit5E => [0xCB, 0x6B]
  | .bit5H => [0xCB, 0x6C]
  | .bit5L => [0xCB, 0x6D]
  | .bit5MemHL => [0xCB, 0x6E]
  | .bit5A => [0xCB, 0x6F]
  | .bit6B => [0xCB, 0x70]
  | .bit6C => [0xCB, 0x71]
  | .bit6D => [0xCB, 0x72]
  | .bit6E => [0xCB, 0x73]
  | .bit6H => [0xCB, 0x74]
  | .bit6L => [0xCB, 0x75]
  | .bit6MemHL => [0xCB, 0x76]
  | .bit6A => [0xCB, 0x77]
  | .bit7B => [0xCB, 0x78]
  | .bit7C => [0xCB, 0x79]
  | .bit7D => [0xCB, 0x7A]
  | .bit7E => [0xCB, 0x7B]
  | .bit7H => [0xCB, 0x7C]
  | .bit7L => [0xCB, 0x7D]
  | .bit7MemHL => [0xCB, 0x7E]
  | .bit7A => [0xCB, 0x7F]
  | .res0B => [0xCB, 0x80]
  | .res0C => [0xCB, 0x81]
  | .res0D => [0xCB, 0x82]
  | .res0E => [0xCB, 0x83]
  | .res0H => [0xCB, 0x84]
  | .res0L => [0xCB, 0x85]
  | .res0MemHL => [0xCB, 0x86]
  | .res0A => [0xCB, 0x87]
  | .res1B => [0xCB, 0x88]
  | .res1C => [0xCB, 0x89]
  | .res1D => [0xCB, 0x8A]
  | .res1E => [0xCB, 0x8B]
  | .res1H => [0xCB, 0x8C]
  | .res1L => [0xCB, 0x8D]
  | .res1MemHL => [0xCB, 0x8E]
  | .res1A => [0xCB, 0x8F]
  | .res2B => [0xCB, 0x90]
  | .res2C => [0xCB, 0x91]
  | .res2D => [0xCB, 0x92]
  | .res2E => [0xCB, 0x93]
  | .res2H => [0xCB, 0x94]
  | .res2L => [0xCB, 0x95]
  | .res2MemHL => [0xCB, 0x96]
  | .res2A => [0xCB, 0x97]
  | .res3B => [0xCB, 0x98]
  | .res3C => [0xCB, 0x99]
  | .res3D => [0xCB, 0x9A]
  | .res3E => [0xCB, 0x9B]
  | .res3H => [0xCB, 0x9C]
  | .res3L => [0xCB, 0x9D]
  | .res3MemHL => [0xCB, 0x9E]
  | .res3A => [0xCB, 0x9F]
  | .res4B => [0xCB, 0xA0]
  | .res4C => [0xCB, 0xA1]
  | .res4D => [0xCB, 0xA2]
  | .res4E => [0xCB, 0xA3]
  | .res4H => [0xCB, 0xA4]
  | .res4L => [0xCB, 0xA5]
  | .res4MemHL => [0xCB, 0xA6]
  | .res4A => [0xCB, 0xA7]
  | .res5B => [0xCB, 0xA8]
  | .res5C => [0xCB, 0xA9]
  | .res5D => [0xCB, 0xAA]
  | .res5E => [0xCB, 0xAB]
  | .res5H => [0xCB, 0xAC]
  | .res5L => [0xCB, 0xAD]
  | .res5MemHL => [0xCB, 0xAE]
  | .res5A => [0xCB, 0xAF]
  | .res6B => [0xCB, 0xB0]
  | .res6C => [0xCB, 0xB1]
  | .res6D => [0xCB, 0xB2]
  | .res6E => [0xCB, 0xB3]
  | .res6H => [0xCB, 0xB4]
  | .res6L => [0xCB, 0xB5]
  | .res6MemHL => [0xCB, 0xB6]
  | .res6A => [0xCB, 0xB7]
  | .res7B => [0xCB, 0xB8]
  | .res7C => [0xCB, 0xB9]
  | .res7D => [0xCB, 0xBA]
  | .res7E => [0xCB, 0xBB]
  | .res7H => [0xCB, 0xBC]
  | .res7L => [0xCB, 0xBD]
  | .res7MemHL => [0xCB, 0xBE]
  | .res7A => [0xCB, 0xBF]
  | .set0B => [0xCB, 0xC0]
  | .set0C => [0xCB, 0xC1]
  | .set0D => [0xCB, 0xC2]
  | .set0E => [0xCB, 0xC3]
  | .set0H => [0xCB, 0xC4]
  | .set0L => [0xCB, 0xC5]
  | .set0MemHL => [0xCB, 0xC6]
  | .set0A => [0xCB, 0xC7]
  | .set1B => [0xCB, 0xC8]
  | .set1C => [0xCB, 0xC9]
  | .set1D => [0xCB, 0xCA]
  | .set1E => [0xCB, 0xCB]
  | .set1H => [0xCB, 0xCC]
  | .set1L => [0xCB, 0xCD]
  | .set1MemHL => [0xCB, 0xCE]
  | .set1A => [0xCB, 0xCF]
  | .set2B => [0xCB, 0xD0]
  | .set2C => [0xCB, 0xD1]
  | .set2D => [0xCB, 0xD2]
  | .set2E => [0xCB, 0xD3]
  | .set2H => [0xCB, 0xD4]
  | .set2L => [0xCB, 0xD5]
  | .set2MemHL => [0xCB, 0xD6]
  | .set2A => [0xCB, 0xD7]
  | .set3B => [0xCB, 0xD8]
  | .set3C => [0xCB, 0xD9]
  | .set3D => [0xCB, 0xDA]
  | .set3E => [0xCB, 0xDB]
  | .set3H => [0xCB, 0xDC]
  | .set3L => [0xCB, 0xDD]
  | .set3MemHL => [0xCB, 0xDE]
  | .set3A => [0xCB, 0xDF]
  | .set4B => [0xCB, 0xE0]
  | .set4C => [0xCB, 0xE1]
  | .set4D => [0xCB, 0xE2]
  | .set4E => [0xCB, 0xE3]
  | .set4H => [0xCB, 0xE4]
  | .set4L => [0xCB, 0xE5]
  | .set4MemHL => [0xCB, 0xE6]
  | .set4A => [0xCB, 0xE7]
  | .set5B => [0xCB, 0xE8]
  | .set5C => [0xCB, 0xE9]
  | .set5D => [0xCB, 0xEA]
  | .set5E => [0xCB, 0xEB]
  | .set5H => [0xCB, 0xEC]
  | .set5L => [0xCB, 0xED]
  | .set5MemHL => [0xCB, 0xEE]
  | .set5A => [0xCB, 0xEF]
  | .set6B => [0xCB, 0xF0]
  | .set6C => [0xCB, 0xF1]
  | .set6D => [0xCB, 0xF2]
  | .set6E => [0xCB, 0xF3]
  | .set6H => [0xCB, 0xF4]
  | .set6L => [0xCB, 0xF5]
  | .set6MemHL => [0xCB, 0xF6]
  | .set6A => [0xCB, 0xF7]
  | .set7B => [0xCB, 0xF8]
  | .set7C => [0xCB, 0xF9]
  | .set7D => [0xCB, 0xFA]
  | .set7E => [0xCB, 0xFB]
  | .set7H => [0xCB, 0xFC]
  | .set7L => [0xCB, 0xFD]
  | .set7MemHL => [0xCB, 0xFE]
  | .set7A => [0xCB, 0xFF]

/-- The three bytes at rising addresses of an instruction whose first `nbits` bits are `w`, numbered as
spec/opcode_table.json numbers them; the bytes beyond are zero (log 16). The table writes a 16-bit match "byte 0 first",
with 0xCB in bits 15:8; every other row has bits of byte 0 alone. -/
def tableBytes (nbits w : Nat) : List Byte :=
  let v := w % 2 ^ nbits
  if nbits = 16 ∧ v / 256 = 0xCB then [0xCB, BitVec.ofNat 8 v, 0x00]
  else [BitVec.ofNat 8 v, BitVec.ofNat 8 (v / 256), BitVec.ofNat 8 (v / 65536)]

/-- The instruction the decoder reads from an instruction whose bits are `w` (log 16). -/
def decodeTableWord (nbits w : Nat) : Option Instr :=
  match decodeBytes (tableBytes nbits w) with
  | .ok (i, _) => some i
  | .error _ => none

end Sys2Proof
end

