-- ==== Sys2Proof/Machine/Iterate.lean ====
section
/-! DEFINITION. The parts of one Dispatcher iteration around `exec` (60_exceptions.md R410, R411; 30_encoding.md R205), and
placing an instruction where the next fetch finds it. -/

namespace Sys2Proof.Machine

/-- R205: one operand byte at `PC + i`, read only where the instruction has it. -/
def fetchOperand (s : State) (pc : Word) (i len : Nat) : Byte × State :=
  if i < len then busRead s (pc + BitVec.ofNat 16 i) else (0x00, s)

/-- R205: the fetch step: the instruction, and the state after the reads with PC advanced past it. -/
def fetch (s : State) : Instr × State :=
  let pc := s.regs.pc
  let op := busRead s pc
  let len := instrLength op.1
  let b1 := fetchOperand op.2 pc 1 len
  let b2 := fetchOperand b1.2 pc 2 len
  (decode op.1 b1.1 b2.1, setPc b2.2 (pc + BitVec.ofNat 16 len))

/-- R411: a wait iteration, or the wake iteration once IF is non-zero (the whole byte, D12). -/
def haltedIteration (s : State) : State :=
  if readIo s 0x0F = 0 then countAndTick s else post { s with mode := .running }

/-- R410: after the instruction: nothing more if it was `HALT`, else the post-instruction step. -/
def complete (s : State) : State :=
  match s.mode with
  | .halted => s
  | .running => post s

/-- `complete` on an outcome. -/
def completeResult : Result → Result
  | .next s => .next (complete s)
  | .fault r => .fault r
  | .refused r => .refused r

/-- The state with byte `b` stored where a fetch from `a` reads it, if the address holds a plain cell (log 17). -/
def placeByte (s : State) (a : Word) (b : Byte) : Option State :=
  match route s a with
  | .cell r k => some (writeCell s r k b)
  | .io o =>
    if o = 0x00 ∨ o = 0x41 ∨ (s.cart.cgb = true ∧ (o = 0x69 ∨ o = 0x6B)) then none else some (writeIo s o.toNat b)
  | _ => none

/-- The bytes at rising addresses from `a`. -/
def placeBytes (s : State) (a : Word) : List Byte → Option State
  | [] => some s
  | b :: bs => (placeByte s a b).bind (fun t => placeBytes t (a + 1) bs)

/-- The running state that fetches the bytes next: stored at PC, or, where PC points at no plain cell, at the entry
point 0x0100 with PC there (log 17). -/
def placeProgram (s : State) (bytes : List Byte) : State :=
  let s1 := { s with mode := .running }
  match placeBytes s1 s1.regs.pc bytes with
  | some t => t
  | none => (placeBytes (setPc s1 0x0100) 0x0100 bytes).getD s1

end Sys2Proof.Machine
end

