-- ==== Sys2Proof/Machine/Step.lean ====
section
/-! DEFINITION. `step`: one Dispatcher iteration (60_exceptions.md R410 `Iterate`). -/

namespace Sys2Proof.Machine

/-- R410: `Iterate()`. -/
def step (s : State) : Host.Outcome State Fault Refusal :=
  match s.mode with
  | .halted => .next (haltedIteration s)
  | .running => completeResult (exec (fetch s).1 (fetch s).2)

/-- `s` with the instruction whose bits are `w` (numbered as spec/opcode_table.json numbers them, log 16) stored where the
next step fetches (log 17). It stands for the host loading a program (log 1). -/
def State.withFetchWord (s : State) (nbits w : Nat) : State := placeProgram s (tableBytes nbits w)

end Sys2Proof.Machine
end

