-- ==== Sys2Proof/Machine/HostOps.lean ====
section
/-! DEFINITION. What the host can do to the machine between iterations (60_exceptions.md R424; 20_memory.md R85). None of
these is part of a step. -/

namespace Sys2Proof.Machine

/-- R20, R424: the names of the register accessors. -/
inductive HostReg where
  | a
  | f
  | b
  | c
  | d
  | e
  | h
  | l
  | sp
  | pc
  | bc
  | de
  | hl
  | af
  deriving DecidableEq, Repr

/-- R424: `read(a)`, with all read effects. -/
def hostRead (s : State) (a : Word) : Byte × State := busRead s a

/-- R424: `write(a, v)`, with all side effects. -/
def hostWrite (s : State) (a : Word) (v : Byte) : State := busWrite s a v

/-- R424: get a register or pair view; an 8-bit register is answered in the low byte. -/
def hostGet (s : State) : HostReg → Word
  | .a => s.regs.a.setWidth 16
  | .f => s.regs.f.setWidth 16
  | .b => s.regs.b.setWidth 16
  | .c => s.regs.c.setWidth 16
  | .d => s.regs.d.setWidth 16
  | .e => s.regs.e.setWidth 16
  | .h => s.regs.h.setWidth 16
  | .l => s.regs.l.setWidth 16
  | .sp => s.regs.sp
  | .pc => s.regs.pc
  | .bc => s.regs.get16 .bc
  | .de => s.regs.get16 .de
  | .hl => s.regs.get16 .hl
  | .af => s.regs.get16 .af

/-- R424: set a register (from the low byte of `w`) or a pair; `f` and `af` force the low nibble of F to 0 (R23, D58);
`pc` redirects the next fetch. -/
def hostSet (s : State) (r : HostReg) (w : Word) : State :=
  match r with
  | .a => setReg8 s .a (loByte w)
  | .f => { s with regs := { s.regs with f := loByte w &&& 0xF0 } }
  | .b => setReg8 s .b (loByte w)
  | .c => setReg8 s .c (loByte w)
  | .d => setReg8 s .d (loByte w)
  | .e => setReg8 s .e (loByte w)
  | .h => setReg8 s .h (loByte w)
  | .l => setReg8 s .l (loByte w)
  | .sp => setPair s .sp w
  | .pc => setPc s w
  | .bc => setPair s .bc w
  | .de => setPair s .de w
  | .hl => setPair s .hl w
  | .af => setPair s .af w

/-- R6, R103: the host changes which keys are pressed; it raises the Joypad request by a write of IF. -/
def hostKeys (s : State) (keys : Byte) : State := { s with joypad := keys }

/-- R424, R470, R37: `reset`: the state after power-on, but the cartridge, its image, its battery RAM and the keys stay,
the unspecified memories hold new free values, the RTC anchor is the next wall-clock draw, and the trace goes on (log 26). -/
def hostReset (s : State) : State :=
  { State.powerOn s.cart s.mem.rom s.mem.cram s.joypad with
    rtcAnchor := s.rtcAnchor + Config.wallClockTick s.wallDraws
    wallDraws := s.wallDraws + 1
    resets := s.resets + 1
    out := s.out }

end Sys2Proof.Machine
end

