-- ==== Sys2Proof/Safety.lean ====
section
/-! DEFINITION. What holds of every state of a run (70_reset_and_hazards.md R472 and the rules it cites): the invariant that
claims about reachable states use. -/

namespace Sys2Proof.Machine

/-- R42: every cell a memory lists lies within the memory's size. -/
def Mem.inBounds (cart : Cart) (m : Mem) : Prop :=
  ∀ r : Region, ∀ c ∈ m.get r, c.1 < r.size cart

/-- R40: where there is no CGB, the CGB-only state is at its constant values. -/
def State.noCgbState (s : State) : Prop :=
  s.doubleSpeed = false ∧ s.vramBank = 0 ∧ s.wramBank = 1 ∧ s.hdmaActive = false

/-- R122, R127: on a CGB the bank and speed state agrees with the I/O cells that set it. -/
def State.cgbCellsAgree (s : State) : Prop :=
  s.vramBank = (readIo s 0x4F).setWidth 1 ∧
  s.wramBank = (if readIo s 0x70 &&& 0x07 = 0 then 1 else (readIo s 0x70).setWidth 3) ∧
  readIo s 0x4D &&& 0xFE = (if s.doubleSpeed then 0x80 else 0x00)

/-- R36, R172: the bank numbers that the mapper's commands can leave. -/
def State.banksLegal (s : State) : Prop :=
  match s.cart.mapper with
  | .noMapper => s.mbc = { currentBank := 1, ramBank := 0, ramEnabled := false, ramMode := false }
  | .mbc1 => s.mbc.currentBank ≠ 0 ∧ s.mbc.currentBank.toNat < 128 ∧ s.mbc.ramBank.toNat < 4
  | .mbc2 => s.mbc.currentBank ≠ 0 ∧ s.mbc.currentBank.toNat < 32 ∧ s.mbc.ramBank = 0
  | .mbc3 => s.mbc.currentBank ≠ 0 ∧ s.mbc.currentBank.toNat < 128
  | .mbc5 => s.mbc.ramBank.toNat < 8

/-- The invariant of every run (R472): `F[3:0] = 0`, `eiDelay <= 2`, `LY <= 153`, the bank numbers legal, the joypad cell
holding bits 5:4 only (R103), the CGB state as R39, R40, R122 and R127 leave it, and every memory in canonical form and
within its size. -/
structure State.Inv (s : State) : Prop where
  flags : s.regs.f &&& 0x0F = 0
  slot : s.eiDelay ≤ 2
  line : (readIo s 0x44).toNat ≤ 153
  banks : s.banksLegal
  keys : readIo s 0x00 &&& 0xCF = 0
  noCgb : s.cart.cgb = false → s.noCgbState
  cgb : s.cart.cgb = true → s.cgbCellsAgree
  canonical : s.mem.wf = true
  bounded : Mem.inBounds s.cart s.mem

/-- R400, R12: a step that goes on. Every state is safe in this sense: the machine never stops by itself. -/
def State.Progresses (s : State) : Prop := ∃ t, step s = .next t

end Sys2Proof.Machine
end

