-- ==== Sys2Proof/Safety/Frame.lean ====
section
/-! DEFINITION. The terms that the statements about instructions use: operand values, what a read and a store leave alone,
flags, and BCD numbers. -/

namespace Sys2Proof.Machine

/-- Every byte of every memory reads as before. -/
def cellsSame (s t : State) : Prop := ∀ r k, readCell t r k = readCell s r k

/-- Nothing but the registers differs, and every byte of every memory reads as before. -/
def sameButRegs (s t : State) : Prop := t = { s with regs := t.regs } ∧ cellsSame s t

/-- The 8-bit register `r` holds `v`; every other register, F, SP and PC are as before. -/
def onlyReg8 (s t : State) (r : Reg8) (v : Byte) : Prop :=
  t.regs.get8 r = v ∧ (∀ x, x ≠ r → t.regs.get8 x = s.regs.get8 x) ∧ t.regs.f = s.regs.f ∧ t.regs.sp = s.regs.sp ∧
    t.regs.pc = s.regs.pc

/-- The pair `p` holds `w`; every register that is no part of `p` is as before. -/
def onlyPair (s t : State) (p : Pair) (w : Word) : Prop :=
  t.regs.get16 p = w ∧
    match p with
    | .bc => t.regs = { s.regs with b := t.regs.b, c := t.regs.c }
    | .de => t.regs = { s.regs with d := t.regs.d, e := t.regs.e }
    | .hl => t.regs = { s.regs with h := t.regs.h, l := t.regs.l }
    | .sp => t.regs = { s.regs with sp := t.regs.sp }
    | .af => t.regs = { s.regs with a := t.regs.a, f := t.regs.f }

/-- The low nibble of F is as before (R28, R250: no flag write reaches it). -/
def lowNibbleSame (s t : State) : Prop := t.regs.f &&& 0x0F = s.regs.f &&& 0x0F

/-- Only A and the flag bits of F differ among the registers. -/
def onlyAccumulator (s t : State) : Prop :=
  t.regs = { s.regs with a := t.regs.a, f := t.regs.f } ∧ lowNibbleSame s t

/-- R62: the byte `v` is stored in cell `k` of the memory `r`: it reads back, every other byte of every memory reads as
before, and nothing else of the state changes. -/
def storedAt (s : State) (r : Region) (k : Nat) (v : Byte) (t : State) : Prop :=
  t = { s with mem := t.mem } ∧ readCell t r k = v ∧ ∀ q j, ¬ (q = r ∧ j = k) → readCell t q j = readCell s q j

/-- R100: the offsets whose write is plain: it stores the byte and does nothing else. -/
def ioPlain (cgb : Bool) (o : Byte) : Bool :=
  !([0x00, 0x04, 0x44, 0x46] : List Byte).contains o &&
    !(cgb && ([0x4D, 0x4F, 0x55, 0x69, 0x6B, 0x70] : List Byte).contains o)

/-- What bytes copied over the bus leave alone (R119, R123): all but memory, the clock that a source read may advance (R176)
and the trace that takes the report of a source read (R73). -/
def sameButCopies (s t : State) : Prop :=
  t = { s with mem := t.mem, rtc := t.rtc, rtcAnchor := t.rtcAnchor, wallDraws := t.wallDraws, out := t.out }

/-- R125: the byte `v` is stored where the index register at offset `o` points, the index moves on within 64 if its bit 7 asks
for it, and nothing else changes. -/
def paletteStored (s : State) (r : Region) (o : Nat) (v : Byte) (t : State) : Prop :=
  let x := readIo s o
  t = { s with mem := t.mem } ∧ readCell t r (x.toNat % 64) = v ∧
    readIo t o = (if 128 ≤ x.toNat then BitVec.ofNat 8 (128 + (x.toNat + 1) % 64) else x) ∧
    ∀ q k, ¬ (q = r ∧ k = x.toNat % 64) → ¬ (q = .io ∧ k = o) → readCell t q k = readCell s q k

/-- R119: a transfer to OAM changes OAM, the cell 0x46, which holds `v`, and what the reads of the source change. -/
def oamDmaFrame (s : State) (v : Byte) (t : State) : Prop :=
  sameButCopies s t ∧ readIo t 0x46 = v ∧
    ∀ r k, ¬ (r = .oam ∧ k < 160) → ¬ (r = .io ∧ k = 0x46) → readCell t r k = readCell s r k

/-- R123: what a write of `v` to HDMA5 of a CGB changes: the active flag and the cell 0x55 where it cancels or starts a
transfer; else Video RAM, the cells 0x51 to 0x55 and what the reads of the source change. -/
def hdmaFrame (s : State) (v : Byte) (t : State) : Prop :=
  if 128 ≤ v.toNat then storedAt { s with hdmaActive := true } .io 0x55 (BitVec.ofNat 8 (v.toNat - 128)) t
  else if s.hdmaActive = true then storedAt { s with hdmaActive := false } .io 0x55 (readIo s 0x55 ||| 0x80) t
  else sameButCopies s t ∧ readIo t 0x55 = 0xFF ∧
    ∀ r k, r ≠ .vram → ¬ (r = .io ∧ 0x51 ≤ k ∧ k ≤ 0x55) → readCell t r k = readCell s r k

/-- R100, R102: what a write of `v` at the I/O offset `o` changes: every offset that R100 does not call plain has its own
clause. -/
def ioFrame (s : State) (o v : Byte) (t : State) : Prop :=
  if ioPlain s.cart.cgb o then storedAt s .io o.toNat v t
  else
    match o.toNat with
    | 0x00 => storedAt s .io 0x00 (v &&& 0x30) t
    | 0x04 => storedAt s .io 0x04 0x00 t
    | 0x44 => t = s
    | 0x46 => oamDmaFrame s v t
    | 0x4D => storedAt s .io 0x4D ((readIo s 0x4D &&& 0x80) ||| (v &&& 0x01)) t
    | 0x4F => storedAt { s with vramBank := BitVec.ofNat 1 (v.toNat % 2) } .io 0x4F v t
    | 0x55 => hdmaFrame s v t
    | 0x69 => paletteStored s .bgPal 0x68 v t
    | 0x6B => paletteStored s .objPal 0x6A v t
    | _ => o = 0x70 ∧
        storedAt { s with wramBank := BitVec.ofNat 3 (if v.toNat % 8 = 0 then 1 else v.toNat % 8) } .io 0x70 v t

/-- R62: what a store of `v` at `a` changes, by what the address resolves to: a mapper command below 0x8000, one cell, one
4-bit cell, one RTC register, what the I/O offset says, or nothing (reported where R73 and R400 ask for it, log 13). -/
def writeFrame (s : State) (a : Word) (v : Byte) (t : State) : Prop :=
  if a.toNat < 0x8000 then t = { s with mbc := t.mbc }
  else
    match route s a with
    | .cell r k => storedAt s r k v t
    | .nibble k => storedAt s .cram k (v &&& 0x0F) t
    | .rtc i => t = { rtcUpdate s with rtc := t.rtc } ∧ t.rtc.read i = v ∧
        ∀ j, j < 5 → j ≠ i → t.rtc.read j = (rtcUpdate s).rtc.read j
    | .disabled => t = s
    | .outOfRange => t = report s (.outOfRange a)
    | .unmapped => t = s
    | .io o => ioFrame s o v t

/-- The memory cell behind an address whose reads give the stored byte and nothing else: Video RAM, byte-wide cartridge
RAM, Work RAM and its echo, OAM, high RAM and IE. -/
def storageCell (s : State) (a : Word) : Option (Region × Nat) :=
  if a.toNat < 0x8000 then none
  else
    match route s a with
    | .cell r k => some (r, k)
    | .io o => if 0x80 ≤ o.toNat then some (.io, o.toNat) else none
    | _ => none

/-- R290: the value of the second operand of an accumulator operation. -/
def srcValue (s : State) : Src → Byte
  | .reg r => s.regs.get8 r
  | .memHL => (busRead s s.hl).1
  | .imm n => n

/-- The state after the second operand is read: only a read of memory can change it (R78). -/
def srcState (s : State) : Src → State
  | .memHL => (busRead s s.hl).2
  | _ => s

/-- R324: the value of the operand of an extended instruction. -/
def targetValue (s : State) : Target → Byte
  | .reg r => s.regs.get8 r
  | .memHL => (busRead s s.hl).1

/-- R324: the state after `r` is written back to the operand that was read, with `f` the new F. -/
def targetWritten (s : State) (f : Byte) (t : Target) (r : Byte) : State :=
  match t with
  | .reg x => { s with regs := { s.regs with f := f }.set8 x r }
  | .memHL => { busWrite (busRead s s.hl).2 s.hl r with regs := { s.regs with f := f } }

/-- R324: what writing `r` back leaves alone: the other registers, every byte of memory for a register operand, and every
byte but the one at HL for the memory operand. -/
def targetFrame (s : State) (t : Target) (r : Byte) (u : State) : Prop :=
  match t with
  | .reg x => u.regs = { s.regs with f := u.regs.f }.set8 x r ∧ u = { s with regs := u.regs }
  | .memHL => u.regs = { s.regs with f := u.regs.f } ∧
      writeFrame (busRead s s.hl).2 s.hl r { u with regs := s.regs }

/-- The flags `(Z, N, HF, CY)` of a value of F (R28). -/
def flagsOf (f : Byte) : Bool × Bool × Bool × Bool := (zFlag f, nFlag f, hFlag f, cFlag f)

/-- R324: the instruction `i` reads its operand `tg` once, writes `r` back to it once, and leaves the flags `fl`; what else
changes is said by `targetFrame`. -/
def rewrites (i : Instr) (s : State) (tg : Target) (r : Byte) (fl : Bool × Bool × Bool × Bool) : Prop :=
  ∃ t, exec i s = .next t ∧ flagsOf t.regs.f = fl ∧ lowNibbleSame s t ∧ t = targetWritten s t.regs.f tg r ∧
    targetFrame s tg r t

/-- R340. -/
def condTrue (f : Byte) : Cond → Prop
  | .nz => zFlag f = false
  | .z => zFlag f = true
  | .nc => cFlag f = false
  | .c => cFlag f = true

/-- A decimal number of two digits, 0 to 99, as a BCD byte. -/
def bcd (x : Nat) : Byte := BitVec.ofNat 8 (x / 10 * 16 + x % 10)

/-- The bytes that `n` reads from the address `a` on give, and the state after them, each read in the state that the read
before it left (R205). -/
def readRun (s : State) (a : Word) : Nat → List Byte × State
  | 0 => ([], s)
  | n + 1 => ((busRead s a).1 :: (readRun (busRead s a).2 (a + 1) n).1, (readRun (busRead s a).2 (a + 1) n).2)

/-- `countAndTick`, `k` times: time passing with no instruction (a wait in `Halted`, R411). -/
def ticks : Nat → State → State
  | 0, s => s
  | k + 1, s => ticks k (countAndTick s)

/-- R174: the time that RTC registers in their normal ranges show, in seconds; the day counter has 9 bits. -/
def RtcRegs.total (r : RtcRegs) : Nat :=
  (((bitOf r.daysHi 0).toNat * 256 + r.daysLo.toNat) * 24 + r.hours.toNat) * 3600 + r.minutes.toNat * 60 + r.seconds.toNat

/-- R176: the ranges that the carry chain leaves: seconds and minutes below 60, hours below 24. -/
def RtcRegs.normal (r : RtcRegs) : Prop := r.seconds.toNat < 60 ∧ r.minutes.toNat < 60 ∧ r.hours.toNat < 24

end Sys2Proof.Machine
end

