-- ==== Sys2Proof/Safety/Forms.lean ====
section
/-! DEFINITION. The forms of each instruction, one table for each group of rules of the spec: the bytes of the encoding that
the rule gives, the instruction, and its operands. The statements about instructions range over these tables. -/

namespace Sys2Proof.Machine

/-- One form of an instruction: its bytes, byte 0 first, the instruction, and what tells it from the others of its table. -/
structure Form (α : Type) where
  bytes : List Byte
  instr : Instr
  arg : α

/-- The bytes of the form decode to its instruction, with nothing left over. -/
def Form.decodes {α : Type} (f : Form α) : Prop := decodeBytes f.bytes = .ok (f.instr, [])

/-- R260: `LD r,r'`, with the destination and the source. -/
def ldRegForms : List (Form (Reg8 × Reg8)) :=
  [⟨[0x40], .ldBB, (.b, .b)⟩, ⟨[0x41], .ldBC, (.b, .c)⟩, ⟨[0x42], .ldBD, (.b, .d)⟩, ⟨[0x43], .ldBE, (.b, .e)⟩,
   ⟨[0x44], .ldBH, (.b, .h)⟩, ⟨[0x45], .ldBL, (.b, .l)⟩, ⟨[0x47], .ldBA, (.b, .a)⟩, ⟨[0x48], .ldCB, (.c, .b)⟩,
   ⟨[0x49], .ldCC, (.c, .c)⟩, ⟨[0x4A], .ldCD, (.c, .d)⟩, ⟨[0x4B], .ldCE, (.c, .e)⟩, ⟨[0x4C], .ldCH, (.c, .h)⟩,
   ⟨[0x4D], .ldCL, (.c, .l)⟩, ⟨[0x4F], .ldCA, (.c, .a)⟩] ++
  [⟨[0x50], .ldDB, (.d, .b)⟩, ⟨[0x51], .ldDC, (.d, .c)⟩, ⟨[0x52], .ldDD, (.d, .d)⟩, ⟨[0x53], .ldDE, (.d, .e)⟩,
   ⟨[0x54], .ldDH, (.d, .h)⟩, ⟨[0x55], .ldDL, (.d, .l)⟩, ⟨[0x57], .ldDA, (.d, .a)⟩, ⟨[0x58], .ldEB, (.e, .b)⟩,
   ⟨[0x59], .ldEC, (.e, .c)⟩, ⟨[0x5A], .ldED, (.e, .d)⟩, ⟨[0x5B], .ldEE, (.e, .e)⟩, ⟨[0x5C], .ldEH, (.e, .h)⟩,
   ⟨[0x5D], .ldEL, (.e, .l)⟩, ⟨[0x5F], .ldEA, (.e, .a)⟩] ++
  [⟨[0x60], .ldHB, (.h, .b)⟩, ⟨[0x61], .ldHC, (.h, .c)⟩, ⟨[0x62], .ldHD, (.h, .d)⟩, ⟨[0x63], .ldHE, (.h, .e)⟩,
   ⟨[0x64], .ldHH, (.h, .h)⟩, ⟨[0x65], .ldHL, (.h, .l)⟩, ⟨[0x67], .ldHA, (.h, .a)⟩, ⟨[0x68], .ldLB, (.l, .b)⟩,
   ⟨[0x69], .ldLC, (.l, .c)⟩, ⟨[0x6A], .ldLD, (.l, .d)⟩, ⟨[0x6B], .ldLE, (.l, .e)⟩, ⟨[0x6C], .ldLH, (.l, .h)⟩,
   ⟨[0x6D], .ldLL, (.l, .l)⟩, ⟨[0x6F], .ldLA, (.l, .a)⟩] ++
  [⟨[0x78], .ldAB, (.a, .b)⟩, ⟨[0x79], .ldAC, (.a, .c)⟩, ⟨[0x7A], .ldAD, (.a, .d)⟩, ⟨[0x7B], .ldAE, (.a, .e)⟩,
   ⟨[0x7C], .ldAH, (.a, .h)⟩, ⟨[0x7D], .ldAL, (.a, .l)⟩, ⟨[0x7F], .ldAA, (.a, .a)⟩]

/-- R261: `LD r,n`, with the destination. -/
def ldImmForms (n : Byte) : List (Form Reg8) :=
  [⟨[0x06, n], .ldBN n, .b⟩, ⟨[0x0E, n], .ldCN n, .c⟩, ⟨[0x16, n], .ldDN n, .d⟩, ⟨[0x1E, n], .ldEN n, .e⟩,
   ⟨[0x26, n], .ldHN n, .h⟩, ⟨[0x2E, n], .ldLN n, .l⟩, ⟨[0x3E, n], .ldAN n, .a⟩]

/-- R262, R265, R266, R269, R271, R273: loads of one byte, with the destination and the address read. -/
def loadForms (n : Byte) (nn : Word) : List (Form (Reg8 × (State → Word))) :=
  [⟨[0x46], .ldBMemHL, (.b, fun s => s.hl)⟩, ⟨[0x4E], .ldCMemHL, (.c, fun s => s.hl)⟩,
   ⟨[0x56], .ldDMemHL, (.d, fun s => s.hl)⟩, ⟨[0x5E], .ldEMemHL, (.e, fun s => s.hl)⟩,
   ⟨[0x66], .ldHMemHL, (.h, fun s => s.hl)⟩, ⟨[0x6E], .ldLMemHL, (.l, fun s => s.hl)⟩,
   ⟨[0x7E], .ldAMemHL, (.a, fun s => s.hl)⟩, ⟨[0x0A], .ldAMemBC, (.a, fun s => s.regs.get16 .bc)⟩,
   ⟨[0x1A], .ldAMemDE, (.a, fun s => s.regs.get16 .de)⟩,
   ⟨[0xFA, loByte nn, hiByte nn], .ldAMemNn nn, (.a, fun _ => nn)⟩,
   ⟨[0xF2], .ldhAMemC, (.a, fun s => highPage s.regs.c)⟩, ⟨[0xF0, n], .ldhAMemN n, (.a, fun _ => highPage n)⟩]

/-- R276, R278: `LD A,(HL+)` and `LD A,(HL-)`, with what is added to HL. -/
def loadStepForms : List (Form Word) :=
  [⟨[0x2A], .ldAMemHLInc, 0x0001⟩, ⟨[0x3A], .ldAMemHLDec, 0xFFFF⟩]

/-- R263, R264, R267, R268, R270, R272, R274: stores of one byte, with the address and the byte stored. -/
def storeForms (n : Byte) (nn : Word) : List (Form ((State → Word) × (State → Byte))) :=
  [⟨[0x70], .ldMemHLB, (fun s => s.hl, fun s => s.regs.b)⟩, ⟨[0x71], .ldMemHLC, (fun s => s.hl, fun s => s.regs.c)⟩,
   ⟨[0x72], .ldMemHLD, (fun s => s.hl, fun s => s.regs.d)⟩, ⟨[0x73], .ldMemHLE, (fun s => s.hl, fun s => s.regs.e)⟩,
   ⟨[0x74], .ldMemHLH, (fun s => s.hl, fun s => s.regs.h)⟩, ⟨[0x75], .ldMemHLL, (fun s => s.hl, fun s => s.regs.l)⟩,
   ⟨[0x77], .ldMemHLA, (fun s => s.hl, fun s => s.regs.a)⟩, ⟨[0x36, n], .ldMemHLN n, (fun s => s.hl, fun _ => n)⟩,
   ⟨[0x02], .ldMemBCA, (fun s => s.regs.get16 .bc, fun s => s.regs.a)⟩,
   ⟨[0x12], .ldMemDEA, (fun s => s.regs.get16 .de, fun s => s.regs.a)⟩,
   ⟨[0xEA, loByte nn, hiByte nn], .ldMemNnA nn, (fun _ => nn, fun s => s.regs.a)⟩,
   ⟨[0xE2], .ldhMemCA, (fun s => highPage s.regs.c, fun s => s.regs.a)⟩,
   ⟨[0xE0, n], .ldhMemNA n, (fun _ => highPage n, fun s => s.regs.a)⟩]

/-- R275, R277: `LD (HL+),A` and `LD (HL-),A`, with what is added to HL. -/
def storeStepForms : List (Form Word) :=
  [⟨[0x22], .ldMemHLIncA, 0x0001⟩, ⟨[0x32], .ldMemHLDecA, 0xFFFF⟩]

/-- R280: `LD rr,nn`, with the pair. -/
def ldPairForms (nn : Word) : List (Form Pair) :=
  [⟨[0x01, loByte nn, hiByte nn], .ldBCNn nn, .bc⟩, ⟨[0x11, loByte nn, hiByte nn], .ldDENn nn, .de⟩,
   ⟨[0x21, loByte nn, hiByte nn], .ldHLNn nn, .hl⟩, ⟨[0x31, loByte nn, hiByte nn], .ldSPNn nn, .sp⟩]

/-- R284: `PUSH rr`, with the pair. -/
def pushForms : List (Form Pair) :=
  [⟨[0xC5], .pushBC, .bc⟩, ⟨[0xD5], .pushDE, .de⟩, ⟨[0xE5], .pushHL, .hl⟩, ⟨[0xF5], .pushAF, .af⟩]

/-- R287, R288: `POP rr`, with the pair. -/
def popForms : List (Form Pair) :=
  [⟨[0xC1], .popBC, .bc⟩, ⟨[0xD1], .popDE, .de⟩, ⟨[0xE1], .popHL, .hl⟩, ⟨[0xF1], .popAF, .af⟩]

/-- R290, R291: `ADD A,s`, with the second operand. -/
def addForms (n : Byte) : List (Form Src) :=
  [⟨[0x80], .addAB, .reg .b⟩, ⟨[0x81], .addAC, .reg .c⟩, ⟨[0x82], .addAD, .reg .d⟩, ⟨[0x83], .addAE, .reg .e⟩,
   ⟨[0x84], .addAH, .reg .h⟩, ⟨[0x85], .addAL, .reg .l⟩, ⟨[0x87], .addAA, .reg .a⟩, ⟨[0x86], .addAMemHL, .memHL⟩,
   ⟨[0xC6, n], .addAN n, .imm n⟩]

/-- R290, R292: `ADC A,s`, with the second operand. -/
def adcForms (n : Byte) : List (Form Src) :=
  [⟨[0x88], .adcAB, .reg .b⟩, ⟨[0x89], .adcAC, .reg .c⟩, ⟨[0x8A], .adcAD, .reg .d⟩, ⟨[0x8B], .adcAE, .reg .e⟩,
   ⟨[0x8C], .adcAH, .reg .h⟩, ⟨[0x8D], .adcAL, .reg .l⟩, ⟨[0x8F], .adcAA, .reg .a⟩, ⟨[0x8E], .adcAMemHL, .memHL⟩,
   ⟨[0xCE, n], .adcAN n, .imm n⟩]

/-- R290, R293: `SUB A,s`, with the second operand. -/
def subForms (n : Byte) : List (Form Src) :=
  [⟨[0x90], .subAB, .reg .b⟩, ⟨[0x91], .subAC, .reg .c⟩, ⟨[0x92], .subAD, .reg .d⟩, ⟨[0x93], .subAE, .reg .e⟩,
   ⟨[0x94], .subAH, .reg .h⟩, ⟨[0x95], .subAL, .reg .l⟩, ⟨[0x97], .subAA, .reg .a⟩, ⟨[0x96], .subAMemHL, .memHL⟩,
   ⟨[0xD6, n], .subAN n, .imm n⟩]

/-- R290, R294: `SBC A,s`, with the second operand. -/
def sbcForms (n : Byte) : List (Form Src) :=
  [⟨[0x98], .sbcAB, .reg .b⟩, ⟨[0x99], .sbcAC, .reg .c⟩, ⟨[0x9A], .sbcAD, .reg .d⟩, ⟨[0x9B], .sbcAE, .reg .e⟩,
   ⟨[0x9C], .sbcAH, .reg .h⟩, ⟨[0x9D], .sbcAL, .reg .l⟩, ⟨[0x9F], .sbcAA, .reg .a⟩, ⟨[0x9E], .sbcAMemHL, .memHL⟩,
   ⟨[0xDE, n], .sbcAN n, .imm n⟩]

/-- R290, R295: `AND A,s`, with the second operand. -/
def andForms (n : Byte) : List (Form Src) :=
  [⟨[0xA0], .andAB, .reg .b⟩, ⟨[0xA1], .andAC, .reg .c⟩, ⟨[0xA2], .andAD, .reg .d⟩, ⟨[0xA3], .andAE, .reg .e⟩,
   ⟨[0xA4], .andAH, .reg .h⟩, ⟨[0xA5], .andAL, .reg .l⟩, ⟨[0xA7], .andAA, .reg .a⟩, ⟨[0xA6], .andAMemHL, .memHL⟩,
   ⟨[0xE6, n], .andAN n, .imm n⟩]

/-- R290, R296: `XOR A,s`, with the second operand. -/
def xorForms (n : Byte) : List (Form Src) :=
  [⟨[0xA8], .xorAB, .reg .b⟩, ⟨[0xA9], .xorAC, .reg .c⟩, ⟨[0xAA], .xorAD, .reg .d⟩, ⟨[0xAB], .xorAE, .reg .e⟩,
   ⟨[0xAC], .xorAH, .reg .h⟩, ⟨[0xAD], .xorAL, .reg .l⟩, ⟨[0xAF], .xorAA, .reg .a⟩, ⟨[0xAE], .xorAMemHL, .memHL⟩,
   ⟨[0xEE, n], .xorAN n, .imm n⟩]

/-- R290, R297: `OR A,s`, with the second operand. -/
def orForms (n : Byte) : List (Form Src) :=
  [⟨[0xB0], .orAB, .reg .b⟩, ⟨[0xB1], .orAC, .reg .c⟩, ⟨[0xB2], .orAD, .reg .d⟩, ⟨[0xB3], .orAE, .reg .e⟩,
   ⟨[0xB4], .orAH, .reg .h⟩, ⟨[0xB5], .orAL, .reg .l⟩, ⟨[0xB7], .orAA, .reg .a⟩, ⟨[0xB6], .orAMemHL, .memHL⟩,
   ⟨[0xF6, n], .orAN n, .imm n⟩]

/-- R290, R298: `CP A,s`, with the second operand. -/
def cpForms (n : Byte) : List (Form Src) :=
  [⟨[0xB8], .cpAB, .reg .b⟩, ⟨[0xB9], .cpAC, .reg .c⟩, ⟨[0xBA], .cpAD, .reg .d⟩, ⟨[0xBB], .cpAE, .reg .e⟩,
   ⟨[0xBC], .cpAH, .reg .h⟩, ⟨[0xBD], .cpAL, .reg .l⟩, ⟨[0xBF], .cpAA, .reg .a⟩, ⟨[0xBE], .cpAMemHL, .memHL⟩,
   ⟨[0xFE, n], .cpAN n, .imm n⟩]

/-- R299, R300: `INC r` and `INC (HL)`, with the operand. -/
def incForms : List (Form Target) :=
  [⟨[0x04], .incB, .reg .b⟩, ⟨[0x0C], .incC, .reg .c⟩, ⟨[0x14], .incD, .reg .d⟩, ⟨[0x1C], .incE, .reg .e⟩,
   ⟨[0x24], .incH, .reg .h⟩, ⟨[0x2C], .incL, .reg .l⟩, ⟨[0x3C], .incA, .reg .a⟩, ⟨[0x34], .incMemHL, .memHL⟩]

/-- R301, R302: `DEC r` and `DEC (HL)`, with the operand. -/
def decForms : List (Form Target) :=
  [⟨[0x05], .decB, .reg .b⟩, ⟨[0x0D], .decC, .reg .c⟩, ⟨[0x15], .decD, .reg .d⟩, ⟨[0x1D], .decE, .reg .e⟩,
   ⟨[0x25], .decH, .reg .h⟩, ⟨[0x2D], .decL, .reg .l⟩, ⟨[0x3D], .decA, .reg .a⟩, ⟨[0x35], .decMemHL, .memHL⟩]

/-- R310: `ADD HL,rr`, with the pair added. -/
def addHLForms : List (Form Pair) :=
  [⟨[0x09], .addHLBC, .bc⟩, ⟨[0x19], .addHLDE, .de⟩, ⟨[0x29], .addHLHL, .hl⟩, ⟨[0x39], .addHLSP, .sp⟩]

/-- R311: `INC rr`, with the pair. -/
def incPairForms : List (Form Pair) :=
  [⟨[0x03], .incBC, .bc⟩, ⟨[0x13], .incDE, .de⟩, ⟨[0x23], .incHL, .hl⟩, ⟨[0x33], .incSP, .sp⟩]

/-- R312: `DEC rr`, with the pair. -/
def decPairForms : List (Form Pair) :=
  [⟨[0x0B], .decBC, .bc⟩, ⟨[0x1B], .decDE, .de⟩, ⟨[0x2B], .decHL, .hl⟩, ⟨[0x3B], .decSP, .sp⟩]

/-- R283, R313: `LD HL,SP+e` and `ADD SP,e`, with the pair written. -/
def addSpForms (e : Byte) : List (Form Pair) :=
  [⟨[0xF8, e], .ldHLSPE e, .hl⟩, ⟨[0xE8, e], .addSPE e, .sp⟩]

/-- R324, R325: `RLC t`, with the operand. -/
def rlcForms : List (Form Target) :=
  [⟨[0xCB, 0x00], .rlcB, .reg .b⟩, ⟨[0xCB, 0x01], .rlcC, .reg .c⟩, ⟨[0xCB, 0x02], .rlcD, .reg .d⟩,
   ⟨[0xCB, 0x03], .rlcE, .reg .e⟩, ⟨[0xCB, 0x04], .rlcH, .reg .h⟩, ⟨[0xCB, 0x05], .rlcL, .reg .l⟩,
   ⟨[0xCB, 0x06], .rlcMemHL, .memHL⟩, ⟨[0xCB, 0x07], .rlcA, .reg .a⟩]

/-- R324, R326: `RRC t`, with the operand. -/
def rrcForms : List (Form Target) :=
  [⟨[0xCB, 0x08], .rrcB, .reg .b⟩, ⟨[0xCB, 0x09], .rrcC, .reg .c⟩, ⟨[0xCB, 0x0A], .rrcD, .reg .d⟩,
   ⟨[0xCB, 0x0B], .rrcE, .reg .e⟩, ⟨[0xCB, 0x0C], .rrcH, .reg .h⟩, ⟨[0xCB, 0x0D], .rrcL, .reg .l⟩,
   ⟨[0xCB, 0x0E], .rrcMemHL, .memHL⟩, ⟨[0xCB, 0x0F], .rrcA, .reg .a⟩]

/-- R324, R327: `RL t`, with the operand. -/
def rlForms : List (Form Target) :=
  [⟨[0xCB, 0x10], .rlB, .reg .b⟩, ⟨[0xCB, 0x11], .rlC, .reg .c⟩, ⟨[0xCB, 0x12], .rlD, .reg .d⟩,
   ⟨[0xCB, 0x13], .rlE, .reg .e⟩, ⟨[0xCB, 0x14], .rlH, .reg .h⟩, ⟨[0xCB, 0x15], .rlL, .reg .l⟩,
   ⟨[0xCB, 0x16], .rlMemHL, .memHL⟩, ⟨[0xCB, 0x17], .rlA, .reg .a⟩]

/-- R324, R328: `RR t`, with the operand. -/
def rrForms : List (Form Target) :=
  [⟨[0xCB, 0x18], .rrB, .reg .b⟩, ⟨[0xCB, 0x19], .rrC, .reg .c⟩, ⟨[0xCB, 0x1A], .rrD, .reg .d⟩,
   ⟨[0xCB, 0x1B], .rrE, .reg .e⟩, ⟨[0xCB, 0x1C], .rrH, .reg .h⟩, ⟨[0xCB, 0x1D], .rrL, .reg .l⟩,
   ⟨[0xCB, 0x1E], .rrMemHL, .memHL⟩, ⟨[0xCB, 0x1F], .rrA, .reg .a⟩]

/-- R324, R329: `SLA t`, with the operand. -/
def slaForms : List (Form Target) :=
  [⟨[0xCB, 0x20], .slaB, .reg .b⟩, ⟨[0xCB, 0x21], .slaC, .reg .c⟩, ⟨[0xCB, 0x22], .slaD, .reg .d⟩,
   ⟨[0xCB, 0x23], .slaE, .reg .e⟩, ⟨[0xCB, 0x24], .slaH, .reg .h⟩, ⟨[0xCB, 0x25], .slaL, .reg .l⟩,
   ⟨[0xCB, 0x26], .slaMemHL, .memHL⟩, ⟨[0xCB, 0x27], .slaA, .reg .a⟩]

/-- R324, R330: `SRA t`, with the operand. -/
def sraForms : List (Form Target) :=
  [⟨[0xCB, 0x28], .sraB, .reg .b⟩, ⟨[0xCB, 0x29], .sraC, .reg .c⟩, ⟨[0xCB, 0x2A], .sraD, .reg .d⟩,
   ⟨[0xCB, 0x2B], .sraE, .reg .e⟩, ⟨[0xCB, 0x2C], .sraH, .reg .h⟩, ⟨[0xCB, 0x2D], .sraL, .reg .l⟩,
   ⟨[0xCB, 0x2E], .sraMemHL, .memHL⟩, ⟨[0xCB, 0x2F], .sraA, .reg .a⟩]

/-- R324, R331: `SWAP t`, with the operand. -/
def swapForms : List (Form Target) :=
  [⟨[0xCB, 0x30], .swapB, .reg .b⟩, ⟨[0xCB, 0x31], .swapC, .reg .c⟩, ⟨[0xCB, 0x32], .swapD, .reg .d⟩,
   ⟨[0xCB, 0x33], .swapE, .reg .e⟩, ⟨[0xCB, 0x34], .swapH, .reg .h⟩, ⟨[0xCB, 0x35], .swapL, .reg .l⟩,
   ⟨[0xCB, 0x36], .swapMemHL, .memHL⟩, ⟨[0xCB, 0x37], .swapA, .reg .a⟩]

/-- R324, R332: `SRL t`, with the operand. -/
def srlForms : List (Form Target) :=
  [⟨[0xCB, 0x38], .srlB, .reg .b⟩, ⟨[0xCB, 0x39], .srlC, .reg .c⟩, ⟨[0xCB, 0x3A], .srlD, .reg .d⟩,
   ⟨[0xCB, 0x3B], .srlE, .reg .e⟩, ⟨[0xCB, 0x3C], .srlH, .reg .h⟩, ⟨[0xCB, 0x3D], .srlL, .reg .l⟩,
   ⟨[0xCB, 0x3E], .srlMemHL, .memHL⟩, ⟨[0xCB, 0x3F], .srlA, .reg .a⟩]

/-- R324, R333: `BIT b,t`, with the bit number and the operand. -/
def bitForms : List (Form (Nat × Target)) :=
  [⟨[0xCB, 0x40], .bit0B, (0, .reg .b)⟩, ⟨[0xCB, 0x41], .bit0C, (0, .reg .c)⟩, ⟨[0xCB, 0x42], .bit0D, (0, .reg .d)⟩,
   ⟨[0xCB, 0x43], .bit0E, (0, .reg .e)⟩, ⟨[0xCB, 0x44], .bit0H, (0, .reg .h)⟩, ⟨[0xCB, 0x45], .bit0L, (0, .reg .l)⟩,
   ⟨[0xCB, 0x46], .bit0MemHL, (0, .memHL)⟩, ⟨[0xCB, 0x47], .bit0A, (0, .reg .a)⟩,
   ⟨[0xCB, 0x48], .bit1B, (1, .reg .b)⟩, ⟨[0xCB, 0x49], .bit1C, (1, .reg .c)⟩, ⟨[0xCB, 0x4A], .bit1D, (1, .reg .d)⟩,
   ⟨[0xCB, 0x4B], .bit1E, (1, .reg .e)⟩, ⟨[0xCB, 0x4C], .bit1H, (1, .reg .h)⟩, ⟨[0xCB, 0x4D], .bit1L, (1, .reg .l)⟩,
   ⟨[0xCB, 0x4E], .bit1MemHL, (1, .memHL)⟩, ⟨[0xCB, 0x4F], .bit1A, (1, .reg .a)⟩] ++
  [⟨[0xCB, 0x50], .bit2B, (2, .reg .b)⟩, ⟨[0xCB, 0x51], .bit2C, (2, .reg .c)⟩, ⟨[0xCB, 0x52], .bit2D, (2, .reg .d)⟩,
   ⟨[0xCB, 0x53], .bit2E, (2, .reg .e)⟩, ⟨[0xCB, 0x54], .bit2H, (2, .reg .h)⟩, ⟨[0xCB, 0x55], .bit2L, (2, .reg .l)⟩,
   ⟨[0xCB, 0x56], .bit2MemHL, (2, .memHL)⟩, ⟨[0xCB, 0x57], .bit2A, (2, .reg .a)⟩,
   ⟨[0xCB, 0x58], .bit3B, (3, .reg .b)⟩, ⟨[0xCB, 0x59], .bit3C, (3, .reg .c)⟩, ⟨[0xCB, 0x5A], .bit3D, (3, .reg .d)⟩,
   ⟨[0xCB, 0x5B], .bit3E, (3, .reg .e)⟩, ⟨[0xCB, 0x5C], .bit3H, (3, .reg .h)⟩, ⟨[0xCB, 0x5D], .bit3L, (3, .reg .l)⟩,
   ⟨[0xCB, 0x5E], .bit3MemHL, (3, .memHL)⟩, ⟨[0xCB, 0x5F], .bit3A, (3, .reg .a)⟩] ++
  [⟨[0xCB, 0x60], .bit4B, (4, .reg .b)⟩, ⟨[0xCB, 0x61], .bit4C, (4, .reg .c)⟩, ⟨[0xCB, 0x62], .bit4D, (4, .reg .d)⟩,
   ⟨[0xCB, 0x63], .bit4E, (4, .reg .e)⟩, ⟨[0xCB, 0x64], .bit4H, (4, .reg .h)⟩, ⟨[0xCB, 0x65], .bit4L, (4, .reg .l)⟩,
   ⟨[0xCB, 0x66], .bit4MemHL, (4, .memHL)⟩, ⟨[0xCB, 0x67], .bit4A, (4, .reg .a)⟩,
   ⟨[0xCB, 0x68], .bit5B, (5, .reg .b)⟩, ⟨[0xCB, 0x69], .bit5C, (5, .reg .c)⟩, ⟨[0xCB, 0x6A], .bit5D, (5, .reg .d)⟩,
   ⟨[0xCB, 0x6B], .bit5E, (5, .reg .e)⟩, ⟨[0xCB, 0x6C], .bit5H, (5, .reg .h)⟩, ⟨[0xCB, 0x6D], .bit5L, (5, .reg .l)⟩,
   ⟨[0xCB, 0x6E], .bit5MemHL, (5, .memHL)⟩, ⟨[0xCB, 0x6F], .bit5A, (5, .reg .a)⟩] ++
  [⟨[0xCB, 0x70], .bit6B, (6, .reg .b)⟩, ⟨[0xCB, 0x71], .bit6C, (6, .reg .c)⟩, ⟨[0xCB, 0x72], .bit6D, (6, .reg .d)⟩,
   ⟨[0xCB, 0x73], .bit6E, (6, .reg .e)⟩, ⟨[0xCB, 0x74], .bit6H, (6, .reg .h)⟩, ⟨[0xCB, 0x75], .bit6L, (6, .reg .l)⟩,
   ⟨[0xCB, 0x76], .bit6MemHL, (6, .memHL)⟩, ⟨[0xCB, 0x77], .bit6A, (6, .reg .a)⟩,
   ⟨[0xCB, 0x78], .bit7B, (7, .reg .b)⟩, ⟨[0xCB, 0x79], .bit7C, (7, .reg .c)⟩, ⟨[0xCB, 0x7A], .bit7D, (7, .reg .d)⟩,
   ⟨[0xCB, 0x7B], .bit7E, (7, .reg .e)⟩, ⟨[0xCB, 0x7C], .bit7H, (7, .reg .h)⟩, ⟨[0xCB, 0x7D], .bit7L, (7, .reg .l)⟩,
   ⟨[0xCB, 0x7E], .bit7MemHL, (7, .memHL)⟩, ⟨[0xCB, 0x7F], .bit7A, (7, .reg .a)⟩]

/-- R324, R334: `RES b,t`, with the bit number and the operand. -/
def resForms : List (Form (Nat × Target)) :=
  [⟨[0xCB, 0x80], .res0B, (0, .reg .b)⟩, ⟨[0xCB, 0x81], .res0C, (0, .reg .c)⟩, ⟨[0xCB, 0x82], .res0D, (0, .reg .d)⟩,
   ⟨[0xCB, 0x83], .res0E, (0, .reg .e)⟩, ⟨[0xCB, 0x84], .res0H, (0, .reg .h)⟩, ⟨[0xCB, 0x85], .res0L, (0, .reg .l)⟩,
   ⟨[0xCB, 0x86], .res0MemHL, (0, .memHL)⟩, ⟨[0xCB, 0x87], .res0A, (0, .reg .a)⟩,
   ⟨[0xCB, 0x88], .res1B, (1, .reg .b)⟩, ⟨[0xCB, 0x89], .res1C, (1, .reg .c)⟩, ⟨[0xCB, 0x8A], .res1D, (1, .reg .d)⟩,
   ⟨[0xCB, 0x8B], .res1E, (1, .reg .e)⟩, ⟨[0xCB, 0x8C], .res1H, (1, .reg .h)⟩, ⟨[0xCB, 0x8D], .res1L, (1, .reg .l)⟩,
   ⟨[0xCB, 0x8E], .res1MemHL, (1, .memHL)⟩, ⟨[0xCB, 0x8F], .res1A, (1, .reg .a)⟩] ++
  [⟨[0xCB, 0x90], .res2B, (2, .reg .b)⟩, ⟨[0xCB, 0x91], .res2C, (2, .reg .c)⟩, ⟨[0xCB, 0x92], .res2D, (2, .reg .d)⟩,
   ⟨[0xCB, 0x93], .res2E, (2, .reg .e)⟩, ⟨[0xCB, 0x94], .res2H, (2, .reg .h)⟩, ⟨[0xCB, 0x95], .res2L, (2, .reg .l)⟩,
   ⟨[0xCB, 0x96], .res2MemHL, (2, .memHL)⟩, ⟨[0xCB, 0x97], .res2A, (2, .reg .a)⟩,
   ⟨[0xCB, 0x98], .res3B, (3, .reg .b)⟩, ⟨[0xCB, 0x99], .res3C, (3, .reg .c)⟩, ⟨[0xCB, 0x9A], .res3D, (3, .reg .d)⟩,
   ⟨[0xCB, 0x9B], .res3E, (3, .reg .e)⟩, ⟨[0xCB, 0x9C], .res3H, (3, .reg .h)⟩, ⟨[0xCB, 0x9D], .res3L, (3, .reg .l)⟩,
   ⟨[0xCB, 0x9E], .res3MemHL, (3, .memHL)⟩, ⟨[0xCB, 0x9F], .res3A, (3, .reg .a)⟩] ++
  [⟨[0xCB, 0xA0], .res4B, (4, .reg .b)⟩, ⟨[0xCB, 0xA1], .res4C, (4, .reg .c)⟩, ⟨[0xCB, 0xA2], .res4D, (4, .reg .d)⟩,
   ⟨[0xCB, 0xA3], .res4E, (4, .reg .e)⟩, ⟨[0xCB, 0xA4], .res4H, (4, .reg .h)⟩, ⟨[0xCB, 0xA5], .res4L, (4, .reg .l)⟩,
   ⟨[0xCB, 0xA6], .res4MemHL, (4, .memHL)⟩, ⟨[0xCB, 0xA7], .res4A, (4, .reg .a)⟩,
   ⟨[0xCB, 0xA8], .res5B, (5, .reg .b)⟩, ⟨[0xCB, 0xA9], .res5C, (5, .reg .c)⟩, ⟨[0xCB, 0xAA], .res5D, (5, .reg .d)⟩,
   ⟨[0xCB, 0xAB], .res5E, (5, .reg .e)⟩, ⟨[0xCB, 0xAC], .res5H, (5, .reg .h)⟩, ⟨[0xCB, 0xAD], .res5L, (5, .reg .l)⟩,
   ⟨[0xCB, 0xAE], .res5MemHL, (5, .memHL)⟩, ⟨[0xCB, 0xAF], .res5A, (5, .reg .a)⟩] ++
  [⟨[0xCB, 0xB0], .res6B, (6, .reg .b)⟩, ⟨[0xCB, 0xB1], .res6C, (6, .reg .c)⟩, ⟨[0xCB, 0xB2], .res6D, (6, .reg .d)⟩,
   ⟨[0xCB, 0xB3], .res6E, (6, .reg .e)⟩, ⟨[0xCB, 0xB4], .res6H, (6, .reg .h)⟩, ⟨[0xCB, 0xB5], .res6L, (6, .reg .l)⟩,
   ⟨[0xCB, 0xB6], .res6MemHL, (6, .memHL)⟩, ⟨[0xCB, 0xB7], .res6A, (6, .reg .a)⟩,
   ⟨[0xCB, 0xB8], .res7B, (7, .reg .b)⟩, ⟨[0xCB, 0xB9], .res7C, (7, .reg .c)⟩, ⟨[0xCB, 0xBA], .res7D, (7, .reg .d)⟩,
   ⟨[0xCB, 0xBB], .res7E, (7, .reg .e)⟩, ⟨[0xCB, 0xBC], .res7H, (7, .reg .h)⟩, ⟨[0xCB, 0xBD], .res7L, (7, .reg .l)⟩,
   ⟨[0xCB, 0xBE], .res7MemHL, (7, .memHL)⟩, ⟨[0xCB, 0xBF], .res7A, (7, .reg .a)⟩]

/-- R324, R335: `SET b,t`, with the bit number and the operand. -/
def setForms : List (Form (Nat × Target)) :=
  [⟨[0xCB, 0xC0], .set0B, (0, .reg .b)⟩, ⟨[0xCB, 0xC1], .set0C, (0, .reg .c)⟩, ⟨[0xCB, 0xC2], .set0D, (0, .reg .d)⟩,
   ⟨[0xCB, 0xC3], .set0E, (0, .reg .e)⟩, ⟨[0xCB, 0xC4], .set0H, (0, .reg .h)⟩, ⟨[0xCB, 0xC5], .set0L, (0, .reg .l)⟩,
   ⟨[0xCB, 0xC6], .set0MemHL, (0, .memHL)⟩, ⟨[0xCB, 0xC7], .set0A, (0, .reg .a)⟩,
   ⟨[0xCB, 0xC8], .set1B, (1, .reg .b)⟩, ⟨[0xCB, 0xC9], .set1C, (1, .reg .c)⟩, ⟨[0xCB, 0xCA], .set1D, (1, .reg .d)⟩,
   ⟨[0xCB, 0xCB], .set1E, (1, .reg .e)⟩, ⟨[0xCB, 0xCC], .set1H, (1, .reg .h)⟩, ⟨[0xCB, 0xCD], .set1L, (1, .reg .l)⟩,
   ⟨[0xCB, 0xCE], .set1MemHL, (1, .memHL)⟩, ⟨[0xCB, 0xCF], .set1A, (1, .reg .a)⟩] ++
  [⟨[0xCB, 0xD0], .set2B, (2, .reg .b)⟩, ⟨[0xCB, 0xD1], .set2C, (2, .reg .c)⟩, ⟨[0xCB, 0xD2], .set2D, (2, .reg .d)⟩,
   ⟨[0xCB, 0xD3], .set2E, (2, .reg .e)⟩, ⟨[0xCB, 0xD4], .set2H, (2, .reg .h)⟩, ⟨[0xCB, 0xD5], .set2L, (2, .reg .l)⟩,
   ⟨[0xCB, 0xD6], .set2MemHL, (2, .memHL)⟩, ⟨[0xCB, 0xD7], .set2A, (2, .reg .a)⟩,
   ⟨[0xCB, 0xD8], .set3B, (3, .reg .b)⟩, ⟨[0xCB, 0xD9], .set3C, (3, .reg .c)⟩, ⟨[0xCB, 0xDA], .set3D, (3, .reg .d)⟩,
   ⟨[0xCB, 0xDB], .set3E, (3, .reg .e)⟩, ⟨[0xCB, 0xDC], .set3H, (3, .reg .h)⟩, ⟨[0xCB, 0xDD], .set3L, (3, .reg .l)⟩,
   ⟨[0xCB, 0xDE], .set3MemHL, (3, .memHL)⟩, ⟨[0xCB, 0xDF], .set3A, (3, .reg .a)⟩] ++
  [⟨[0xCB, 0xE0], .set4B, (4, .reg .b)⟩, ⟨[0xCB, 0xE1], .set4C, (4, .reg .c)⟩, ⟨[0xCB, 0xE2], .set4D, (4, .reg .d)⟩,
   ⟨[0xCB, 0xE3], .set4E, (4, .reg .e)⟩, ⟨[0xCB, 0xE4], .set4H, (4, .reg .h)⟩, ⟨[0xCB, 0xE5], .set4L, (4, .reg .l)⟩,
   ⟨[0xCB, 0xE6], .set4MemHL, (4, .memHL)⟩, ⟨[0xCB, 0xE7], .set4A, (4, .reg .a)⟩,
   ⟨[0xCB, 0xE8], .set5B, (5, .reg .b)⟩, ⟨[0xCB, 0xE9], .set5C, (5, .reg .c)⟩, ⟨[0xCB, 0xEA], .set5D, (5, .reg .d)⟩,
   ⟨[0xCB, 0xEB], .set5E, (5, .reg .e)⟩, ⟨[0xCB, 0xEC], .set5H, (5, .reg .h)⟩, ⟨[0xCB, 0xED], .set5L, (5, .reg .l)⟩,
   ⟨[0xCB, 0xEE], .set5MemHL, (5, .memHL)⟩, ⟨[0xCB, 0xEF], .set5A, (5, .reg .a)⟩] ++
  [⟨[0xCB, 0xF0], .set6B, (6, .reg .b)⟩, ⟨[0xCB, 0xF1], .set6C, (6, .reg .c)⟩, ⟨[0xCB, 0xF2], .set6D, (6, .reg .d)⟩,
   ⟨[0xCB, 0xF3], .set6E, (6, .reg .e)⟩, ⟨[0xCB, 0xF4], .set6H, (6, .reg .h)⟩, ⟨[0xCB, 0xF5], .set6L, (6, .reg .l)⟩,
   ⟨[0xCB, 0xF6], .set6MemHL, (6, .memHL)⟩, ⟨[0xCB, 0xF7], .set6A, (6, .reg .a)⟩,
   ⟨[0xCB, 0xF8], .set7B, (7, .reg .b)⟩, ⟨[0xCB, 0xF9], .set7C, (7, .reg .c)⟩, ⟨[0xCB, 0xFA], .set7D, (7, .reg .d)⟩,
   ⟨[0xCB, 0xFB], .set7E, (7, .reg .e)⟩, ⟨[0xCB, 0xFC], .set7H, (7, .reg .h)⟩, ⟨[0xCB, 0xFD], .set7L, (7, .reg .l)⟩,
   ⟨[0xCB, 0xFE], .set7MemHL, (7, .memHL)⟩, ⟨[0xCB, 0xFF], .set7A, (7, .reg .a)⟩]

/-- R342: `JP cc,nn`, with the condition. -/
def jpIfForms (nn : Word) : List (Form Cond) :=
  [⟨[0xC2, loByte nn, hiByte nn], .jpNZNn nn, .nz⟩, ⟨[0xCA, loByte nn, hiByte nn], .jpZNn nn, .z⟩,
   ⟨[0xD2, loByte nn, hiByte nn], .jpNCNn nn, .nc⟩, ⟨[0xDA, loByte nn, hiByte nn], .jpCNn nn, .c⟩]

/-- R345: `JR cc,e`, with the condition. -/
def jrIfForms (e : Byte) : List (Form Cond) :=
  [⟨[0x20, e], .jrNZE e, .nz⟩, ⟨[0x28, e], .jrZE e, .z⟩, ⟨[0x30, e], .jrNCE e, .nc⟩, ⟨[0x38, e], .jrCE e, .c⟩]

/-- R347: `CALL cc,nn`, with the condition. -/
def callIfForms (nn : Word) : List (Form Cond) :=
  [⟨[0xC4, loByte nn, hiByte nn], .callNZNn nn, .nz⟩, ⟨[0xCC, loByte nn, hiByte nn], .callZNn nn, .z⟩,
   ⟨[0xD4, loByte nn, hiByte nn], .callNCNn nn, .nc⟩, ⟨[0xDC, loByte nn, hiByte nn], .callCNn nn, .c⟩]

/-- R349: `RET cc`, with the condition. -/
def retIfForms : List (Form Cond) :=
  [⟨[0xC0], .retNZ, .nz⟩, ⟨[0xC8], .retZ, .z⟩, ⟨[0xD0], .retNC, .nc⟩, ⟨[0xD8], .retC, .c⟩]

/-- R351: `RST t`, with the target. -/
def rstForms : List (Form Word) :=
  [⟨[0xC7], .rst00, 0x00⟩, ⟨[0xCF], .rst08, 0x08⟩, ⟨[0xD7], .rst10, 0x10⟩, ⟨[0xDF], .rst18, 0x18⟩,
   ⟨[0xE7], .rst20, 0x20⟩, ⟨[0xEF], .rst28, 0x28⟩, ⟨[0xF7], .rst30, 0x30⟩, ⟨[0xFF], .rst38, 0x38⟩]

/-- R366: the illegal bytes, each with itself. -/
def illegalForms : List (Form Byte) :=
  [⟨[0xD3], .illegalD3, 0xD3⟩, ⟨[0xDB], .illegalDB, 0xDB⟩, ⟨[0xDD], .illegalDD, 0xDD⟩, ⟨[0xE3], .illegalE3, 0xE3⟩,
   ⟨[0xE4], .illegalE4, 0xE4⟩, ⟨[0xEB], .illegalEB, 0xEB⟩, ⟨[0xEC], .illegalEC, 0xEC⟩, ⟨[0xED], .illegalED, 0xED⟩,
   ⟨[0xF4], .illegalF4, 0xF4⟩, ⟨[0xFC], .illegalFC, 0xFC⟩, ⟨[0xFD], .illegalFD, 0xFD⟩]

/-- R29: the instructions that write flags. -/
def flagWriters (n e : Byte) : List Instr :=
  (addForms n ++ adcForms n ++ subForms n ++ sbcForms n).map (·.instr) ++
  (andForms n ++ xorForms n ++ orForms n ++ cpForms n).map (·.instr) ++
  (incForms ++ decForms).map (·.instr) ++ (addHLForms).map (·.instr) ++ (addSpForms e).map (·.instr) ++
  (rlcForms ++ rrcForms ++ rlForms ++ rrForms).map (·.instr) ++
  (slaForms ++ sraForms ++ swapForms ++ srlForms).map (·.instr) ++ bitForms.map (·.instr) ++
  [.rlca, .rrca, .rla, .rra, .daa, .cpl, .scf, .ccf, .popAF]

end Sys2Proof.Machine
end

