-- ==== Sys2Proof/Certificates/Slice0/Obligations.lean ====
section
/-! DEFINITION. The statements about the model, each named for what it says, with the rules of spec/ it rests on.
Statements about instructions range over the form tables of Safety/Forms.lean: together the tables and the instructions named
one by one here are all 511 constructors of `Instr`, and each is said to answer a next state. -/

open Sys2Proof Sys2Proof.Machine

/-! ## Encoding -/

/-- R200 to R207, R213, R214: every instruction, with every operand, is read back from its bytes, whatever follows them. -/
def Obligations.DecodeOfEncode : Prop :=
  ∀ (i : Instr) (rest : List Byte), i.wellFormed = true →
    codeWellFormed (encode i) = true ∧ decodeBytes (encode i ++ rest) = .ok (i, rest)

/-- R200, R205, R207: what is decoded from a byte string is encoded by exactly the bytes that were taken from it; the first byte
alone fixes how many those are: 17 first bytes take three, 27 take two and 212 take one. -/
def Obligations.EncodeOfDecode : Prop :=
  (∀ (bytes rest : List Byte) (i : Instr), decodeBytes bytes = .ok (i, rest) → encode i ++ rest = bytes) ∧
  ((∀ op b1 b2 : Byte, (encode (decode op b1 b2)).length = instrLength op) ∧
   ((List.range 256).countP fun n => instrLength (BitVec.ofNat 8 n) == 3) = 17 ∧
   ((List.range 256).countP fun n => instrLength (BitVec.ofNat 8 n) == 2) = 27 ∧
   ((List.range 256).countP fun n => instrLength (BitVec.ofNat 8 n) == 1) = 212)

/-- Words written out in the spec's own examples decode to the instructions they stand for (R214, R280, R283, R291, R303,
R341, R344, R361, R366). -/
def Obligations.SpecWordsDecode : Prop :=
  decodeBytes [0xCB, 0x37] = .ok (.swapA, []) ∧ decodeBytes [0xCB, 0x7C] = .ok (.bit7H, []) ∧
  decodeBytes [0xCB, 0x86] = .ok (.res0MemHL, []) ∧ decodeBytes [0xCB, 0xFF] = .ok (.set7A, []) ∧
  decodeBytes [0x21, 0x34, 0x12] = .ok (.ldHLNn 0x1234, []) ∧ decodeBytes [0xF8, 0x02] = .ok (.ldHLSPE 0x02, []) ∧
  decodeBytes [0x80] = .ok (.addAB, []) ∧ decodeBytes [0x27] = .ok (.daa, []) ∧
  decodeBytes [0xC3, 0x50, 0x01] = .ok (.jpNn 0x0150, []) ∧ decodeBytes [0x18, 0xFE] = .ok (.jrE 0xFE, []) ∧
  decodeBytes [0x76] = .ok (.halt, []) ∧ decodeBytes [0xDD, 0x3C] = .ok (.illegalDD, [0x3C])

/-! ## The step and the invariant -/

/-- R205, R410: when the bytes at PC are those of `i`, a step of the running machine is `i`, executed after the reads of its
bytes with PC past them, and then the post-instruction step, unless `i` left the machine halted.
The order of the post-instruction step is decision D10. -/
def Obligations.StepRunsDecoded : Prop :=
  ∀ (s : State) (i : Instr), s.mode = .running → (readRun s s.regs.pc (encode i).length).1 = encode i →
    step s =
      match exec i (setPc (readRun s s.regs.pc (encode i).length).2 (s.regs.pc + BitVec.ofNat 16 (encode i).length)) with
      | .next t => .next (match t.mode with | .halted => t | .running => post t)
      | .fault r => .fault r
      | .refused r => .refused r

/-- R12, R400: "The machine never stops by itself": every step of every state answers a next state. -/
def Obligations.StepAlwaysGoesOn : Prop := ∀ s : State, s.Progresses

/-- R472: F[3:0] = 0, eiDelay at most 2, LY at most 153, legal bank numbers, CGB state that agrees with its cells,
and memories in canonical form within their sizes: every step keeps all of it.
R472 is the spec's own derivation; the clauses on canonical memories are the model's (log 1, log 2). -/
def Obligations.StepKeepsInvariant : Prop := ∀ s t : State, s.Inv → step s = .next t → t.Inv

/-- R470, R472: the machine right after reset meets the invariant (its register values are the spec's, its cartridge is the
blank one of log 1); so does every machine right after power-on, whatever its cartridge, and every one that the host resets.
The reset values are decisions D2 to D6. -/
def Obligations.ResetInvariant : Prop :=
  (State.reset.Inv) ∧
  ((∀ (cart : Cart) (rom cram : Memory) (keys : Byte), Memory.wf .rom rom = true → Memory.wf .cram cram = true →
     (∀ c ∈ rom, c.1 < Region.size cart .rom) → (∀ c ∈ cram, c.1 < Region.size cart .cram) →
     (State.powerOn cart rom cram keys).Inv) ∧
   ∀ s : State, s.Inv → (hostReset s).Inv)

/-- R45, R131, R470: the registers, every I/O cell and the control state right after power-on, for every cartridge; ROM and battery
RAM are what the cartridge brought; a later reset by the host gives the same values and leaves both as they are.
The values are decisions D2 to D6, D38, D39, D49; a later reset is log 26. -/
def Obligations.ResetState : Prop :=
  let cells := fun (cart : Cart) (o : Nat) =>
    (if o = 0x40 then 0x91 else if o = 0x47 then 0xFC else if o = 0x48 then 0xFF else if o = 0x49 then 0xFF
     else if o = 0x55 ∧ cart.cgb = true then 0xFF else 0x00 : Byte)
  (∀ (cart : Cart) (rom cram : Memory) (keys : Byte),
     let s := State.powerOn cart rom cram keys
     s.regs = { a := if cart.cgb then 0x11 else 0x01, f := 0xB0, b := 0x00, c := 0x13, d := 0x00, e := 0xD8, h := 0x01,
                l := 0x4D, sp := 0xFFFE, pc := 0x0100 } ∧
     ∀ o, o < 256 → readIo s o = cells cart o) ∧
  (let control := fun s : State =>
     s.ime = false ∧ s.eiDelay = 0 ∧ s.mode = .running ∧ s.clock = 0 ∧ s.doubleSpeed = false ∧
     s.mbc.currentBank = 1 ∧ s.mbc.ramBank = 0 ∧ s.mbc.ramEnabled = false ∧ s.mbc.ramMode = false ∧
     s.rtc = s.cart.rtcInit ∧ s.vramBank = 0 ∧ s.wramBank = 1 ∧ s.hdmaActive = false
   (∀ (cart : Cart) (rom cram : Memory) (keys : Byte),
     let s := State.powerOn cart rom cram keys
     control s ∧ s.cart = cart ∧ s.mem.rom = rom ∧ s.mem.cram = cram) ∧
   ∀ s : State, control (hostReset s) ∧ (hostReset s).regs = Regs.reset s.cart.cgb ∧ (hostReset s).cart = s.cart ∧
     (∀ o, o < 256 → readIo (hostReset s) o = cells s.cart o) ∧
     ∀ k, readCell (hostReset s) .rom k = readCell s .rom k ∧ readCell (hostReset s) .cram k = readCell s .cram k)

/-- R6, R37, R472: no step changes a parameter: the cartridge, its ROM image, the keys; nor the count of resets. -/
def Obligations.ParametersNeverChange : Prop :=
  ∀ s t : State, step s = .next t →
    t.cart = s.cart ∧ t.joypad = s.joypad ∧ t.resets = s.resets ∧ ∀ k, readCell t .rom k = readCell s .rom k

/-- R33, R38, R361, R410, R411: every step counts 1 on `clock`, but for the step that executes a `HALT`, which counts nothing; and
the machine is halted after a step exactly when the step executed `HALT`, or it was waiting and the IF byte was zero.
Rests on the spec's own decisions D10, D11, D12. -/
def Obligations.ClockAndMode : Prop :=
  (∀ s t : State, step s = .next t →
     (s.mode = .running ∧ (fetch s).1 = .halt → t.clock = s.clock) ∧
     (¬ (s.mode = .running ∧ (fetch s).1 = .halt) → t.clock = s.clock + 1)) ∧
  (∀ s t : State, step s = .next t →
     (t.mode = .halted ↔ s.mode = .running ∧ (fetch s).1 = .halt ∨ s.mode = .halted ∧ readIo s 0x0F = 0))

/-- R411: a wait iteration only counts and ticks; the first iteration that finds IF non-zero does no fetch, clears the
wait and runs the post-instruction step.
Rests on the spec's own decisions D11, D12. -/
def Obligations.HaltIteration : Prop :=
  ∀ s : State, s.mode = .halted →
    (readIo s 0x0F = 0 → ∃ t, step s = .next t ∧ t = timingTick { s with clock := s.clock + 1 } ∧ t.regs = s.regs ∧
      t.ime = s.ime ∧ t.eiDelay = s.eiDelay ∧ t.mode = .halted ∧ t.clock = s.clock + 1) ∧
    (readIo s 0x0F ≠ 0 → step s = .next (post { s with mode := .running }))

/-- R361, R476, R439: a wait in `Halted` is bounded: from any halted state, after at most 9240 wait iterations (18480 in
double speed) the machine is in a state, still halted, whose IF byte is non-zero, so that its next iteration wakes.
Rests on the spec's own decisions D12, D25, D29. -/
def Obligations.HaltWaitIsBounded : Prop :=
  ∀ s : State, s.mode = .halted →
    ∃ n t, n ≤ (if s.isDouble then 18480 else 9240) ∧ Host.Core.run Sys2Proof.core n s = .next t ∧ t.mode = .halted ∧
      readIo t 0x0F ≠ 0

/-! ## Interrupts -/

/-- R410, R412: the post-instruction step: the EI slot, the count, the tick, then the interrupt check, which sees the IME of
the slot and the IF of the tick.
Rests on the spec's own decisions D10, D13. -/
def Obligations.PostOrder : Prop :=
  ∀ s : State,
    let u := { s with eiDelay := s.eiDelay - 1, ime := s.ime || decide (s.eiDelay = 1), clock := s.clock + 1 }
    post s = interruptCheck (timingTick u) ∧ (post s).eiDelay = s.eiDelay - 1 ∧ (post s).clock = s.clock + 1 ∧
    (post s).mode = s.mode

/-- R414, R415, R416: with IME set, the least of the five sources that is pending and enabled is entered: PC is pushed, high
byte first, IME is cleared, that one IF bit is cleared, PC is the source's vector, and nothing else changes; with IME clear,
or with none of the five both pending and enabled, the check changes nothing.
The mask 0x1F is decision D14, the order of the two bytes D16, the unchanged rest D15. -/
def Obligations.InterruptCheck : Prop :=
  (∀ (s : State) (i : Nat), s.ime = true → i < 5 → bitOf (readIo s 0x0F &&& readIo s 0xFF) i = true →
     (∀ j, j < i → bitOf (readIo s 0x0F &&& readIo s 0xFF) j = false) →
     let u := busWrite s (s.regs.sp - 1) (hiByte s.regs.pc)
     let m := busWrite u (s.regs.sp - 2) (loByte s.regs.pc)
     interruptCheck s =
       { writeIo m 0x0F (readIo m 0x0F &&& ~~~(1#8 <<< i)) with
         regs := { s.regs with sp := s.regs.sp - 2, pc := BitVec.ofNat 16 (0x40 + 8 * i) }, ime := false } ∧
     writeFrame s (s.regs.sp - 1) (hiByte s.regs.pc) u ∧ writeFrame u (s.regs.sp - 2) (loByte s.regs.pc) m) ∧
  (∀ s : State, s.ime = false ∨ readIo s 0x0F &&& readIo s 0xFF &&& 0x1F = 0 → interruptCheck s = s)

/-- R417, R350: with the stack in plain memory, `RETI` right after an entry returns to the interrupted PC with SP and the
other registers as before the entry, and with IME set.
`RETI` is decision D13. -/
def Obligations.ReturnFromInterrupt : Prop :=
  ∀ (s : State) (i : Nat) (c d : Region × Nat), storageCell s (s.regs.sp - 1) = some c →
    storageCell s (s.regs.sp - 2) = some d →
    ∃ t, exec .reti (interruptEntry s i) = .next t ∧ t.regs = s.regs ∧ t.ime = true ∧ t.eiDelay = s.eiDelay

/-- R364, R412, R475: `EI` executed with IME clear takes effect after the next instruction: no interrupt is entered in its
own step, and at the end of the next one either IME is set or an interrupt has just been entered.
Rests on the spec's own decision D13. -/
def Obligations.EiLatency : Prop :=
  (∀ s u : State, s.mode = .running → s.ime = false → (fetch s).1 = .ei → step s = .next u →
    u.ime = false ∧ u.eiDelay = 1 ∧ u.mode = .running ∧ u.regs = { s.regs with pc := s.regs.pc + 1 }) ∧
  (∀ s u v : State, s.mode = .running → s.ime = false → (fetch s).1 = .ei → step s = .next u →
    (fetch u).1 ≠ .ei → (fetch u).1 ≠ .di → (fetch u).1 ≠ .reti → (fetch u).1 ≠ .halt → step u = .next v →
    v.eiDelay = 0 ∧ (v.ime = true ∨ ∃ i, i < 5 ∧ v.ime = false ∧ v.regs.pc = vector i))

/-- R31, R32, R33, R38, R39: no instruction but `DI` and `RETI` writes IME, none but `EI` and `DI` the EI slot, none but
`HALT` the mode, none but `STOP` the speed, and none at all `clock`.
Rests on the spec's own decisions D13, D51. -/
def Obligations.ControlStateWriters : Prop :=
  ∀ (i : Instr) (s t : State), exec i s = .next t →
    (i ≠ .di → i ≠ .reti → t.ime = s.ime) ∧ (i ≠ .ei → i ≠ .di → t.eiDelay = s.eiDelay) ∧
    (i ≠ .halt → t.mode = s.mode) ∧ ((∀ b, i ≠ .stop b) → t.doubleSpeed = s.doubleSpeed) ∧ t.clock = s.clock

/-- R29: an instruction that is none of the flag-writing instructions leaves F as it is, and so does the post-instruction
step (interrupt entry, the Timing Driver).
R29 is the spec's own derivation. -/
def Obligations.FlagWriters : Prop :=
  (∀ (i : Instr) (s t : State), (∀ n e, i ∉ flagWriters n e) → exec i s = .next t → t.regs.f = s.regs.f) ∧
  ∀ s : State, (post s).regs.f = s.regs.f

/-! ## The bus -/

/-- R78, R73: a bus read changes no byte of memory; it changes nothing at all unless it reads an RTC register or falls
outside a populated region.
The out-of-range read is decision D40. -/
def Obligations.BusReadFrame : Prop :=
  ∀ (s : State) (a : Word),
    cellsSame s (busRead s a).2 ∧
    match route s a with
    | .rtc i => busRead s a = ((rtcUpdate s).rtc.read i, rtcUpdate s)
    | .outOfRange => busRead s a = (0xFF, report s (.outOfRange a))
    | _ => (busRead s a).2 = s

/-- R62, R65, R73, R78, R100, R102, R171, R400: what a bus write changes, by what its address resolves to, and that nothing else
does: a mapper command, one cell, an RTC register, the effect of the I/O offset, a report, or nothing. What a source read of
a copy may change is named (`sameButCopies`), and so is the report of an ignored write (log 13).
The I/O side effects are decisions D30 to D34, D38, D39, D49 to D51. -/
def Obligations.BusWriteFrame : Prop := ∀ (s : State) (a : Word) (v : Byte), writeFrame s a v (busWrite s a v)

/-- R80: at the addresses backed by plain memory a read returns the byte last written, and every address that resolves to
another cell reads as before the write. -/
def Obligations.ReadAfterWrite : Prop :=
  ∀ (s : State) (a : Word) (v : Byte) (c : Region × Nat), storageCell s a = some c →
    (busRead (busWrite s a v) a).1 = v ∧
    ∀ b, storageCell s b ≠ some c → (busRead (busWrite s a v) b).1 = (busRead s b).1

/-- R69, 90_conflicts.md C2: the echo: an access at 0xE000 + k is the access at 0xC000 + k, for every k up to 0x1DFF, so a byte
written at either is read at the other. That the access is the same one rests on the spec's own decision D36. -/
def Obligations.EchoRoundTrip : Prop :=
  ∀ (s : State) (k : Nat) (v : Byte), k < 0x1E00 →
    let a := BitVec.ofNat 16 (0xC000 + k)
    let b := BitVec.ofNat 16 (0xE000 + k)
    busRead s b = busRead s a ∧ busWrite s b v = busWrite s a v ∧
    (busRead (busWrite s a v) b).1 = v ∧ (busRead (busWrite s b v) a).1 = v

/-- R63, R64, R66, R68, R70, R71: the two ROM windows (bank 0; the selected bank, or 0xFF with a report where the image has no
such bank), and Video RAM, Work RAM, OAM and the unmapped range, read and written.
Rests on the spec's own decisions D37 to D40. -/
def Obligations.MemoryMap : Prop :=
  (∀ (s : State) (a : Word),
     (a.toNat < 0x4000 → busRead s a = (readCell s .rom a.toNat, s)) ∧
     (0x4000 ≤ a.toNat → a.toNat < 0x8000 →
       let i := s.mbc.currentBank.toNat * 0x4000 + (a.toNat - 0x4000)
       (i < s.cart.romBanks * 16384 → busRead s a = (readCell s .rom i, s)) ∧
       (s.cart.romBanks * 16384 ≤ i → busRead s a = (0xFF, report s (.outOfRange a))))) ∧
  (∀ (s : State) (a : Word) (v : Byte),
     let n := a.toNat
     let cell := fun (r : Region) (k : Nat) => busRead s a = (readCell s r k, s) ∧ busWrite s a v = writeCell s r k v
     (0x8000 ≤ n → n < 0xA000 → cell .vram ((if s.cart.cgb then s.vramBank.toNat else 0) * 0x2000 + (n - 0x8000))) ∧
     (0xC000 ≤ n → n < 0xD000 → cell .wram (n - 0xC000)) ∧
     (0xD000 ≤ n → n < 0xE000 → cell .wram ((if s.cart.cgb then s.wramBank.toNat else 1) * 0x1000 + (n - 0xD000))) ∧
     (0xFE00 ≤ n → n < 0xFEA0 → cell .oam (n - 0xFE00)) ∧
     (0xFEA0 ≤ n → n < 0xFF00 → busRead s a = (0xFF, s) ∧ busWrite s a v = s))

/-- R170, R171, R177: the window 0xA000-0xBFFF by mapper family: the gate, the bank arithmetic, the 4-bit cells of an MBC2,
the RTC registers of an MBC3, and what falls outside the RAM. (A disabled read gives 0xFF by D47; a write outside the RAM is
reported as well as ignored, 60_exceptions.md R400, log 13.)
Rests on the spec's own decisions D44, D45, D47, D48. -/
def Obligations.CartridgeRamWindow : Prop :=
  ∀ (s : State) (a : Word) (v : Byte), 0xA000 ≤ a.toNat → a.toNat < 0xC000 →
    let off := a.toNat - 0xA000
    let cell := fun i => (i < s.cart.ramBanks * 8192 →
        busRead s a = (readCell s .cram i, s) ∧ busWrite s a v = writeCell s .cram i v) ∧
      (s.cart.ramBanks * 8192 ≤ i →
        busRead s a = (0xFF, report s (.outOfRange a)) ∧ busWrite s a v = report s (.outOfRange a))
    let banked := cell (s.mbc.ramBank.toNat * 0x2000 + off)
    let outside := busRead s a = (0xFF, report s (.outOfRange a)) ∧ busWrite s a v = report s (.outOfRange a)
    (s.cart.mapper = .noMapper → cell off) ∧
    (s.cart.mapper ≠ .noMapper → s.mbc.ramEnabled = false → busRead s a = (0xFF, s) ∧ busWrite s a v = s) ∧
    (s.mbc.ramEnabled = true →
      (s.cart.mapper = .mbc1 ∨ s.cart.mapper = .mbc5 → banked) ∧
      (s.cart.mapper = .mbc2 →
        (off < 512 → busRead s a = (0xF0 ||| readCell s .cram off, s) ∧
          busWrite s a v = writeCell s .cram off (v &&& 0x0F)) ∧
        (512 ≤ off → outside)) ∧
      (s.cart.mapper = .mbc3 →
        let b := s.mbc.ramBank.toNat
        (b ≤ 3 → banked) ∧
        (8 ≤ b → b ≤ 12 → busRead s a = ((rtcUpdate s).rtc.read (b - 8), rtcUpdate s) ∧
          busWrite s a v = { rtcUpdate s with rtc := (rtcUpdate s).rtc.write (b - 8) v }) ∧
        (3 < b → b < 8 ∨ 12 < b → outside)))

/-- R119, R118: a write of `v` to 0xFF46 stores it and copies 160 bytes to OAM: byte `i` is what a read of 256 * v + i gives
after the `i` copies before it; unless the source is a clock, that is what it gives before the transfer. Nothing but OAM,
that cell and what the reads themselves do (the RTC, its anchor and its draws; the trace) is changed.
Rests on the spec's own decision D32. -/
def Obligations.OamDmaCopies : Prop :=
  ∀ (s : State) (v : Byte),
    let s1 := writeIo s 0x46 v
    let src := fun i => BitVec.ofNat 16 (256 * v.toNat + i)
    let t := busWrite s 0xFF46 v
    (∀ i, i < 160 → readCell t .oam i = (busRead (oamCopy (BitVec.ofNat 16 (256 * v.toNat)) i 0 s1) (src i)).1) ∧
    ((∀ i j, i < 160 → route s (src i) ≠ .rtc j) →
      t = { s with mem := t.mem, out := t.out } ∧ ∀ i, i < 160 → readCell t .oam i = (busRead s1 (src i)).1) ∧
    oamDmaFrame s v t

/-- R102, R103, R105, R116, R122, R127, R130: a write to the I/O file: DIV is cleared, LY keeps its value, the joypad cell
takes bits 5:4 only, on a CGB KEY1, VBK and SVBK steer their state, and every plain offset stores the byte; `clock`
never changes.
Rests on the spec's own decisions D30, D31, D33, D38, D39, D51, D60. -/
def Obligations.IoWrites : Prop :=
  ∀ (s : State) (o v : Byte),
    let t := busWrite s (highPage o) v
    (o = 0x00 → storedAt s .io 0x00 (v &&& 0x30) t) ∧
    (o = 0x04 → storedAt s .io 0x04 0x00 t) ∧
    (o = 0x44 → t = s) ∧
    (ioPlain s.cart.cgb o = true → storedAt s .io o.toNat v t) ∧
    (s.cart.cgb = true →
      (o = 0x4D → storedAt s .io 0x4D ((readIo s 0x4D &&& 0x80) ||| (v &&& 0x01)) t) ∧
      (o = 0x4F → storedAt { s with vramBank := BitVec.ofNat 1 (v.toNat % 2) } .io 0x4F v t) ∧
      (o = 0x70 → storedAt { s with wramBank := BitVec.ofNat 3 (if v.toNat % 8 = 0 then 1 else v.toNat % 8) } .io 0x70 v t)) ∧
    t.clock = s.clock

/-- R101, R103, R112, R113, R114: reading the joypad register: bits 7:6 are 1, bits 5:4 the stored selection, and bit `k` is
cleared by a pressed key of a selected group (R472 keeps the other bits of the stored cell zero). Reading STAT: bits 7:3 as
stored, bit 2 set when LY equals LYC, bits 1:0 the mode: 1 from line 144 on, else 0, 2 or 3 as the open parameter `STAT_MODE`
gives it for the place in the line, whatever function it is (log 7); where the parameter is the default, by the two fractions
of R114. Reading any other offset but the data ports of a CGB (PalettePorts): the stored cell; no read changes the state.
Rests on the spec's own decisions D28, D33. -/
def Obligations.SynthesizedReads : Prop :=
  (∀ s : State, readIo s 0x00 &&& 0xCF = 0 →
     ∃ b, busRead s 0xFF00 = (b, s) ∧ bitOf b 7 = true ∧ bitOf b 6 = true ∧ bitOf b 5 = bitOf (readIo s 0x00) 5 ∧
       bitOf b 4 = bitOf (readIo s 0x00) 4 ∧
       ∀ k, k < 4 → (bitOf b k = false ↔
         bitOf (readIo s 0x00) 4 = false ∧ bitOf s.joypad k = true ∨
         bitOf (readIo s 0x00) 5 = false ∧ bitOf s.joypad (k + 4) = true)) ∧
  (∀ s : State,
     let h := if s.cart.cgb && s.doubleSpeed then 120 else 60
     let pos := s.clock % h
     ∃ b, busRead s 0xFF41 = (b, s) ∧ (∀ k, 3 ≤ k → k < 8 → bitOf b k = bitOf (readIo s 0x41) k) ∧
       (bitOf b 2 = true ↔ readIo s 0x44 = readIo s 0x45) ∧
       b.toNat % 4 =
         (if 144 ≤ (readIo s 0x44).toNat then 1 else (statMode s.cart.statMode pos h).bits.toNat) ∧
       ((readIo s 0x44).toNat < 144 → s.cart.statMode = [] →
         b.toNat % 4 = if 6 * pos < h then 2 else if 20 * pos < 11 * h then 3 else 0)) ∧
  ∀ (s : State) (o : Byte), o ≠ 0x00 → o ≠ 0x41 → ¬ (s.cart.cgb = true ∧ (o = 0x69 ∨ o = 0x6B)) →
    busRead s (highPage o) = (readIo s o.toNat, s)

/-- R125: the palette ports of a CGB: the data port reads and writes the byte that the index register selects, and a write
moves the index on, within 64, where bit 7 of the index register asks for it.
Rests on the spec's own decision D50. -/
def Obligations.PalettePorts : Prop :=
  ∀ (s : State) (v : Byte), s.cart.cgb = true →
    let port := fun (r : Region) (index data : Byte) =>
      let x := readIo s index.toNat
      let t := busWrite s (highPage data) v
      busRead s (highPage data) = (readCell s r (x.toNat % 64), s) ∧ paletteStored s r index.toNat v t
    port .bgPal 0x68 0x69 ∧ port .objPal 0x6A 0x6B

/-- R123: `HdmaBlock()`: byte `i` of the sixteen is what a read of src + i gives after the `i` copies before it, stored in
the Video RAM bank in effect; src and dst move on by 16 in their registers; no other byte of memory changes, and beside memory
nothing but what the reads of the source change.
Rests on the spec's own decision D49. -/
def Obligations.HdmaBlockCopies : Prop :=
  ∀ s : State,
    let src := BitVec.ofNat 16 ((256 * (readIo s 0x51).toNat + (readIo s 0x52).toNat) / 16 * 16)
    let off := (256 * (readIo s 0x53).toNat + (readIo s 0x54).toNat) % 8192 / 16 * 16
    let dst := BitVec.ofNat 16 (0x8000 + off)
    let bank := if s.cart.cgb then s.vramBank.toNat else 0
    let t := hdmaBlock s
    sameButCopies s t ∧
    (∀ i, i < 16 → readCell t .vram (bank * 8192 + off + i) =
      (busRead (vramCopy src dst i 0 s) (src + BitVec.ofNat 16 i)).1) ∧
    256 * (readIo t 0x51).toNat + (readIo t 0x52).toNat = (src.toNat + 16) % 65536 ∧
    256 * (readIo t 0x53).toNat + (readIo t 0x54).toNat = 0x8000 + (off + 16) % 8192 ∧
    ∀ r k, ¬ (r = .vram ∧ bank * 8192 + off ≤ k ∧ k < bank * 8192 + off + 16) → ¬ (r = .io ∧ 0x51 ≤ k ∧ k ≤ 0x54) →
      readCell t r k = readCell s r k

/-- R123, R124, R443: HDMA5 of a CGB: a write with bit 7 clear cancels an active transfer, with bit 7 set it starts one, and
otherwise it copies its blocks at once. The service of a scanline does nothing without an active transfer of a CGB; an active
one copies one block and then stores 0xFF and ends, or stores the remaining blocks minus one; all else is as after the block.
Rests on the spec's own decision D49. -/
def Obligations.HdmaControl : Prop :=
  (∀ s : State, s.cart.cgb = false ∨ s.hdmaActive = false → hdmaService s = s) ∧
  ∀ (s : State) (v : Byte), s.cart.cgb = true →
    let t := busWrite s 0xFF55 v
    let u := hdmaService s
    let n := (readIo s 0x55).toNat % 128
    (v.toNat < 128 → s.hdmaActive = true →
      storedAt { s with hdmaActive := false } .io 0x55 (readIo s 0x55 ||| 0x80) t) ∧
    (128 ≤ v.toNat → storedAt { s with hdmaActive := true } .io 0x55 (BitVec.ofNat 8 (v.toNat - 128)) t) ∧
    (v.toNat < 128 → s.hdmaActive = false → storedAt (hdmaBlocks (v.toNat + 1) s) .io 0x55 0xFF t) ∧
    (s.hdmaActive = true → n = 0 → storedAt { hdmaBlock s with hdmaActive := false } .io 0x55 0xFF u) ∧
    (s.hdmaActive = true → n ≠ 0 → u.hdmaActive = true ∧ storedAt (hdmaBlock s) .io 0x55 (BitVec.ofNat 8 (n - 1)) u)

/-! ## The cartridge -/

/-- R158, R159, R160, R161: the four commands of an MBC1; no other field and no memory changes.
Rests on the spec's own decision D43. -/
def Obligations.Mbc1Commands : Prop :=
  ∀ (s : State) (a : Word) (v : Byte), s.cart.mapper = .mbc1 →
    let b := s.mbc.currentBank.toNat
    let select := fun n : Nat => BitVec.ofNat 9 (if n = 0 then 1 else n)
    (a.toNat < 0x2000 →
      busWrite s a v = { s with mbc := { s.mbc with ramEnabled := decide (v.toNat % 16 = 10) } }) ∧
    (0x2000 ≤ a.toNat → a.toNat < 0x4000 →
      busWrite s a v = { s with mbc := { s.mbc with currentBank := select (b / 32 % 4 * 32 + v.toNat % 32) } }) ∧
    (0x4000 ≤ a.toNat → a.toNat < 0x6000 →
      busWrite s a v =
        if s.mbc.ramMode then { s with mbc := { s.mbc with ramBank := BitVec.ofNat 4 (v.toNat % 4) } }
        else { s with mbc := { s.mbc with currentBank := select (b % 32 + v.toNat % 4 * 32) } }) ∧
    (0x6000 ≤ a.toNat → a.toNat < 0x8000 →
      busWrite s a v = { s with mbc := { s.mbc with ramMode := decide (v.toNat % 2 = 1) } })

/-- R157, R162, R164 to R169: the commands of an MBC2, told apart by address bit 8, of an MBC3, of an MBC5, with no 0 to 1
substitution, and a cartridge without mapper, which ignores every write to ROM.
Rests on the spec's own decisions D44 to D46. -/
def Obligations.MapperCommands : Prop :=
  (∀ (s : State) (a : Word) (v : Byte),
     let select := fun n : Nat => BitVec.ofNat 9 (if n = 0 then 1 else n)
     let gate := { s with mbc := { s.mbc with ramEnabled := decide (v.toNat % 16 = 10) } }
     (s.cart.mapper = .mbc2 → a.toNat < 0x8000 → busWrite s a v =
       if a.toNat < 0x2000 ∧ a.toNat / 256 % 2 = 0 then gate
       else if 0x2000 ≤ a.toNat ∧ a.toNat < 0x4000 ∧ a.toNat / 256 % 2 = 1 then
         { s with mbc := { s.mbc with currentBank := select (v.toNat % 32) } }
       else s) ∧
     (s.cart.mapper = .mbc3 → a.toNat < 0x8000 → busWrite s a v =
       if a.toNat < 0x2000 then gate
       else if a.toNat < 0x4000 then { s with mbc := { s.mbc with currentBank := select (v.toNat % 128) } }
       else if a.toNat < 0x6000 then { s with mbc := { s.mbc with ramBank := BitVec.ofNat 4 (v.toNat % 16) } }
       else s)) ∧
  (∀ (s : State) (a : Word) (v : Byte),
     let b := s.mbc.currentBank.toNat
     (s.cart.mapper = .mbc5 → a.toNat < 0x8000 → busWrite s a v =
       if a.toNat < 0x2000 then { s with mbc := { s.mbc with ramEnabled := decide (v.toNat % 16 = 10) } }
       else if a.toNat < 0x3000 then { s with mbc := { s.mbc with currentBank := BitVec.ofNat 9 (b / 256 * 256 + v.toNat) } }
       else if a.toNat < 0x4000 then
         { s with mbc := { s.mbc with currentBank := BitVec.ofNat 9 (b % 256 + v.toNat % 2 * 256) } }
       else if a.toNat < 0x6000 then { s with mbc := { s.mbc with ramBank := BitVec.ofNat 4 (v.toNat % 8) } }
       else s) ∧
     (s.cart.mapper = .noMapper → a.toNat < 0x8000 → busWrite s a v = s))

/-- R174 to R176: `RtcUpdate()` advances the registers by the seconds from the anchor to the next draw, which are free (log 4),
and moves the anchor and the draw on. A halted RTC stays, and so does one for which no time passes; otherwise the carry chain
runs, also from registers that a write left outside their ranges (R177, log 25). In the normal ranges the time shown moves on
by `d` within 512 days, the carry bit is set when the day counter passes 511 and never cleared, the other bits of days-hi
stay.
Rests on the spec's own decision D45. -/
def Obligations.RtcAdvances : Prop :=
  (∀ s : State,
    let d := Config.wallClockTick s.wallDraws
    rtcUpdate s = { s with rtc := rtcAdvance s.rtc d, rtcAnchor := s.rtcAnchor + d, wallDraws := s.wallDraws + 1 }) ∧
  ∀ (r : RtcRegs) (d : Nat),
    let t := rtcAdvance r d
    let sec := r.seconds.toNat + d
    let min := r.minutes.toNat + sec / 60
    let hour := r.hours.toNat + min / 60
    let days := 256 * (r.daysHi.toNat % 2) + r.daysLo.toNat + hour / 24
    (bitOf r.daysHi 6 = true ∨ d = 0 → t = r) ∧
    (bitOf r.daysHi 6 = false → 0 < d →
      t.seconds.toNat = sec % 60 ∧ t.minutes.toNat = min % 60 ∧ t.hours.toNat = hour % 24 ∧
      t.daysLo.toNat = days % 256 ∧ t.daysHi.toNat % 2 = days / 256 % 2 ∧
      bitOf t.daysHi 7 = (bitOf r.daysHi 7 || decide (511 < days)) ∧
      ∀ k, 1 ≤ k → k < 7 → bitOf t.daysHi k = bitOf r.daysHi k) ∧
    (bitOf r.daysHi 6 = false → r.normal →
      t.normal ∧ t.total = (r.total + d) % (512 * 86400) ∧
      bitOf t.daysHi 7 = (bitOf r.daysHi 7 || decide (512 * 86400 ≤ r.total + d)) ∧
      ∀ k, 1 ≤ k → k < 7 → bitOf t.daysHi k = bitOf r.daysHi k)

/-- R150 to R155: a machine is constructed exactly when the three codes of the header have an entry in the tables of R152,
R153 and R154 (any other code is a load error) and the image has the length they say; its ROM then holds the image and its
parameters are those of the header and those the host gave. A header byte past the end of the image reads as 0x00, which is the
model's choice (log 30): no such image has the length that its codes say, so the statement does not depend on it.
Rests on the spec's own decisions D41, D42. -/
def Obligations.CartridgeConstruction : Prop :=
  ∀ (image : List Byte) (cram : Memory) (rtc : RtcRegs) (stat : StatTable) (keys : Byte),
    let header := fun k => image.getD k 0x00
    let romTable : List (Byte × Nat) :=
      [(0x00, 2), (0x01, 4), (0x02, 8), (0x03, 16), (0x04, 32), (0x05, 64), (0x06, 128), (0x07, 256), (0x52, 72), (0x53, 80),
        (0x54, 96)]
    let ramTable : List (Byte × Nat) := [(0x00, 0), (0x01, 1), (0x02, 1), (0x03, 4), (0x04, 16)]
    let mapperTable : List (Byte × Mapper) :=
      [(0x00, .noMapper), (0x08, .noMapper), (0x09, .noMapper), (0x01, .mbc1), (0x02, .mbc1), (0x03, .mbc1), (0x05, .mbc2),
        (0x06, .mbc2), (0x0F, .mbc3), (0x10, .mbc3), (0x11, .mbc3), (0x12, .mbc3), (0x13, .mbc3), (0x19, .mbc5),
        (0x1A, .mbc5), (0x1B, .mbc5), (0x1C, .mbc5), (0x1D, .mbc5), (0x1E, .mbc5)]
    ((∃ s, loadCartridge image cram rtc stat keys = .ok s) ↔
      (∃ n, (header 0x148, n) ∈ romTable ∧ image.length = n * 16384) ∧ (∃ n, (header 0x149, n) ∈ ramTable) ∧
        ∃ m, (header 0x147, m) ∈ mapperTable) ∧
    ∀ s, loadCartridge image cram rtc stat keys = .ok s →
      (∀ k, k < image.length → readCell s .rom k = header k) ∧ (header 0x148, s.cart.romBanks) ∈ romTable ∧
      (header 0x149, s.cart.ramBanks) ∈ ramTable ∧ (header 0x147, s.cart.mapper) ∈ mapperTable ∧
      s.cart.cgb = decide (128 ≤ (header 0x143).toNat) ∧ s.mem.cram = cram ∧ s.joypad = keys ∧
      s.cart.rtcInit = rtc ∧ s.cart.statMode = stat

/-! ## The Timing Driver -/

/-- R430, R431, R433, R434, R436, R437, R439, R440, R441, R443: one tick on the already incremented `clock`. DIV, TIMA, LY and IF
as their periods and gates say; every other cell of the I/O file but HDMA's own keeps its byte, and so does every memory but
Video RAM. Between scanlines nothing else changes; at a scanline the tick goes on from those cells to the notifications of
the new LY and then to the HDMA service, and changes nothing else.
Rests on the spec's own decisions D20 to D27, D29. -/
def Obligations.TickRegisters : Prop :=
  ∀ s : State,
    let double := s.cart.cgb && s.doubleSpeed
    let nDiv := if double then 66 else 33
    let hLine := if double then 120 else 60
    let tac := (readIo s 0x07).toNat
    let mTima := if tac % 4 = 0 then 135 else if tac % 4 = 1 then 2 else if tac % 4 = 2 then 8 else 33
    let counts := tac / 4 % 2 = 1 ∧ s.clock % mTima = 0
    let line := if 153 ≤ (readIo s 0x44).toNat then 0 else readIo s 0x44 + 1
    let timer : Byte := if counts ∧ readIo s 0x05 = 0xFF ∧ bitOf (readIo s 0xFF) 2 = true then 0x04 else 0x00
    let vblank : Byte := if s.clock % hLine = 0 ∧ line = 144 then 0x01 else 0x00
    let stat : Byte := if s.clock % hLine = 0 ∧ line = 144 ∧ bitOf (readIo s 0x41) 4 = true then 0x02 else 0x00
    let t := timingTick s
    ∃ u : State, u = { s with mem := u.mem } ∧
      t = (if s.clock % hLine = 0 then hdmaService (lineNotifications u) else u) ∧
      readIo u 0x04 = (if s.clock % nDiv = 0 then readIo s 0x04 + 1 else readIo s 0x04) ∧
      readIo u 0x05 =
        (if counts then (if readIo s 0x05 = 0xFF then readIo s 0x06 else readIo s 0x05 + 1) else readIo s 0x05) ∧
      readIo u 0x44 = (if s.clock % hLine = 0 then line else readIo s 0x44) ∧
      readIo u 0x0F = (readIo s 0x0F ||| timer ||| vblank ||| stat) ∧
      (∀ r k, ¬ (r = .io ∧ (k = 0x04 ∨ k = 0x05 ∨ k = 0x0F ∨ k = 0x44)) → readCell u r k = readCell s r k) ∧
      (∀ o, o < 0x51 ∨ 0x55 < o → readIo t o = readIo u o) ∧
      ∀ r k, r ≠ .io → r ≠ .vram → readCell t r k = readCell s r k

/-- R431, R437, R430: time passing with no instruction: in `k` ticks at single speed DIV counts the multiples of 33 that
`clock` passes, modulo 256, and LY those of 60, modulo 154.
Rests on the spec's own decisions D23, D25. -/
def Obligations.CountersOverTime : Prop :=
  ∀ (s : State) (k : Nat), s.isDouble = false → (readIo s 0x44).toNat ≤ 153 →
    let t := ticks k s
    t.clock = s.clock + k ∧
    (readIo t 0x04).toNat = ((readIo s 0x04).toNat + ((s.clock + k) / 33 - s.clock / 33)) % 256 ∧
    (readIo t 0x44).toNat = ((readIo s 0x44).toNat + ((s.clock + k) / 60 - s.clock / 60)) % 154

/-- R441: the notifications of a scanline: 144 to 169 in ascending order when the new LY is 144, its own number for a visible
line, none for the lines of VBlank after the first. They go to the trace, newest first (log 12).
Rests on the spec's own decision D54. -/
def Obligations.ScanlineNotifications : Prop :=
  ∀ s : State,
    let ly := (readIo s 0x44).toNat
    lineNotifications s =
      if ly = 144 then { s with out := ((List.range 26).map fun k => Event.scanline (144 + k)).reverse ++ s.out }
      else if ly < 144 then { s with out := .scanline ly :: s.out }
      else s

/-! ## Registers -/

/-- R20, R22, R23, R424: a pair is its two cells: the pair written is read back, its halves are the high and the low byte, a cell
written shows in the pair; a write of AF leaves the low nibble of F zero. What the host sets it gets back, with the low nibble
of F forced to zero, and nothing but the registers changes.
Rests on the spec's own decision D58. -/
def Obligations.RegisterViews : Prop :=
  (∀ (g : Regs) (w : Word) (v : Byte),
     (∀ p, (g.set16 p w).get16 p = if p = .af then w &&& 0xFFF0 else w) ∧
     ((g.set16 .bc w).b.toNat = w.toNat / 256 ∧ (g.set16 .bc w).c.toNat = w.toNat % 256) ∧
     ((g.set16 .de w).d.toNat = w.toNat / 256 ∧ (g.set16 .de w).e.toNat = w.toNat % 256) ∧
     ((g.set16 .hl w).h.toNat = w.toNat / 256 ∧ (g.set16 .hl w).l.toNat = w.toNat % 256) ∧
     ((g.set16 .af w).a.toNat = w.toNat / 256 ∧ (g.set16 .af w).f.toNat = w.toNat % 256 / 16 * 16) ∧
     (((g.set8 .b v).get16 .bc).toNat = 256 * v.toNat + g.c.toNat ∧
       ((g.set8 .c v).get16 .bc).toNat = 256 * g.b.toNat + v.toNat) ∧
     (((g.set8 .d v).get16 .de).toNat = 256 * v.toNat + g.e.toNat ∧
       ((g.set8 .e v).get16 .de).toNat = 256 * g.d.toNat + v.toNat) ∧
     (((g.set8 .h v).get16 .hl).toNat = 256 * v.toNat + g.l.toNat ∧
       ((g.set8 .l v).get16 .hl).toNat = 256 * g.h.toNat + v.toNat) ∧
     ((g.set8 .a v).get16 .af).toNat = 256 * v.toNat + g.f.toNat) ∧
  (∀ (s : State) (r : HostReg) (w : Word),
     sameButRegs s (hostSet s r w) ∧
     hostGet (hostSet s r w) r =
       match r with
       | .sp | .pc | .bc | .de | .hl => w
       | .af => w &&& 0xFFF0
       | .f => w &&& 0x00F0
       | _ => w &&& 0x00FF)

/-! ## Loads and the stack -/

/-- R260, R261: `LD r,r'` and `LD r,n`. -/
def Obligations.LoadRegister : Prop :=
  (∀ (s : State), ∀ f ∈ ldRegForms, f.decodes ∧
     ∃ t, exec f.instr s = .next t ∧ onlyReg8 s t f.arg.1 (s.regs.get8 f.arg.2) ∧ sameButRegs s t) ∧
  (∀ (s : State) (n : Byte), ∀ f ∈ ldImmForms n, f.decodes ∧
     ∃ t, exec f.instr s = .next t ∧ onlyReg8 s t f.arg n ∧ sameButRegs s t)

/-- R262, R265, R266, R269, R271, R273, R276, R278: loads of one byte from memory: the register holds the byte that a read of
the address gives, and nothing else changes but what that read itself does; `LD A,(HL+)` and `LD A,(HL-)` then move HL one up
or one down, modulo 65536. -/
def Obligations.LoadFromMemory : Prop :=
  (∀ (s : State) (n : Byte) (nn : Word), ∀ f ∈ loadForms n nn, f.decodes ∧
     ∃ t, exec f.instr s = .next t ∧ onlyReg8 s t f.arg.1 (busRead s (f.arg.2 s)).1 ∧
       sameButRegs (busRead s (f.arg.2 s)).2 t ∧ cellsSame s t) ∧
  (∀ (s : State), ∀ f ∈ loadStepForms, f.decodes ∧
     ∃ t, exec f.instr s = .next t ∧ t.regs.a = (busRead s s.hl).1 ∧ t.hl = s.hl + f.arg ∧
       t.regs = { s.regs with a := t.regs.a, h := t.regs.h, l := t.regs.l } ∧ sameButRegs (busRead s s.hl).2 t ∧ cellsSame s t)

/-- R263, R264, R267, R268, R270, R272, R274, R275, R277, R281: stores of one byte: the bus write of the byte at the address, no
register changed, and nothing but what that write changes at this address (`writeFrame`); `LD (HL+),A` and `LD (HL-),A` then move HL one up or
one down, modulo 65536; `LD (nn),SP` stores the low byte at nn, then the high byte at nn + 1.
The byte order of `LD (nn),SP` is decision D59. -/
def Obligations.StoreToMemory : Prop :=
  (∀ (s : State) (n : Byte) (nn : Word), ∀ f ∈ storeForms n nn, f.decodes ∧
     ∃ t, exec f.instr s = .next t ∧ t = busWrite s (f.arg.1 s) (f.arg.2 s) ∧ t.regs = s.regs ∧
       writeFrame s (f.arg.1 s) (f.arg.2 s) t) ∧
  (∀ (s : State), ∀ f ∈ storeStepForms, f.decodes ∧
     ∃ t, exec f.instr s = .next t ∧ t = { busWrite s s.hl s.regs.a with regs := t.regs } ∧ t.hl = s.hl + f.arg ∧
       t.regs = { s.regs with h := t.regs.h, l := t.regs.l } ∧ writeFrame s s.hl s.regs.a { t with regs := s.regs }) ∧
  (∀ (s : State) (nn : Word), decodeBytes [0x08, loByte nn, hiByte nn] = .ok (.ldMemNnSP nn, []) ∧
     let u := busWrite s nn (loByte s.regs.sp)
     ∃ t, exec (.ldMemNnSP nn) s = .next t ∧ t = busWrite u (nn + 1) (hiByte s.regs.sp) ∧ t.regs = s.regs ∧
       writeFrame s nn (loByte s.regs.sp) u ∧ writeFrame u (nn + 1) (hiByte s.regs.sp) t)

/-- R280, R282: `LD rr,nn` and `LD SP,HL`. -/
def Obligations.LoadPair : Prop :=
  (∀ (s : State) (nn : Word), ∀ f ∈ ldPairForms nn, f.decodes ∧
    ∃ t, exec f.instr s = .next t ∧ onlyPair s t f.arg nn ∧ sameButRegs s t) ∧
  (∀ s : State, decodeBytes [0xF9] = .ok (.ldSPHL, []) ∧
    ∃ t, exec .ldSPHL s = .next t ∧ onlyPair s t .sp s.hl ∧ sameButRegs s t)

/-- R284 to R288: `PUSH rr`: SP goes down by two; the high byte is written below the old SP, then the low byte below it. `POP rr`:
the low byte from SP, then the high byte from SP + 1; SP goes up by two; a pop of AF leaves the low nibble of F zero.
The order of the two writes is decision D16. -/
def Obligations.PushAndPop : Prop :=
  (∀ (s : State), ∀ f ∈ pushForms, f.decodes ∧
     let w := s.regs.get16 f.arg
     let u := busWrite s (s.regs.sp - 1) (hiByte w)
     let m := busWrite u (s.regs.sp - 2) (loByte w)
     exec f.instr s = .next { m with regs := { s.regs with sp := s.regs.sp - 2 } } ∧
     writeFrame s (s.regs.sp - 1) (hiByte w) u ∧ writeFrame u (s.regs.sp - 2) (loByte w) m) ∧
  (∀ (s : State), ∀ f ∈ popForms, f.decodes ∧
     let lo := busRead s s.regs.sp
     let hi := busRead lo.2 (s.regs.sp + 1)
     let w := BitVec.ofNat 16 (256 * hi.1.toNat + lo.1.toNat)
     ∃ t, exec f.instr s = .next t ∧ onlyPair { s with regs := { s.regs with sp := s.regs.sp + 2 } } t f.arg
         (if f.arg = .af then w &&& 0xFFF0 else w) ∧
       sameButRegs hi.2 t ∧ cellsSame s t)

/-- R75, R285, R286: with the stack in plain memory, a pop gives back the word that was pushed, and SP is as before.
The order of the two writes is decision D16. -/
def Obligations.StackRoundTrip : Prop :=
  ∀ (s : State) (w : Word) (c d : Region × Nat), storageCell s (s.regs.sp - 1) = some c →
    storageCell s (s.regs.sp - 2) = some d →
    (pop16 (push16 s w)).1 = w ∧ (pop16 (push16 s w)).2.regs = s.regs ∧
    (busRead (push16 s w) (s.regs.sp - 2)).1 = loByte w ∧ (busRead (push16 s w) (s.regs.sp - 1)).1 = hiByte w

/-! ## Arithmetic and logic -/

/-- R230, R290, R291, R292: `ADD A,s` and `ADC A,s`, with the four flags. -/
def Obligations.AddAndAdc : Prop :=
  ∀ (s : State) (n : Byte),
    let run := fun (f : Form Src) (cin : Nat) =>
      let a := s.regs.a.toNat
      let v := (srcValue s f.arg).toNat
      f.decodes ∧ ∃ t, exec f.instr s = .next t ∧ t.regs.a.toNat = (a + v + cin) % 256 ∧
        flagsOf t.regs.f = (decide ((a + v + cin) % 256 = 0), false, decide (a % 16 + v % 16 + cin > 15),
          decide (a + v + cin > 255)) ∧
        onlyAccumulator s t ∧ sameButRegs (srcState s f.arg) t ∧ cellsSame s t
    (∀ f ∈ addForms n, run f 0) ∧ (∀ f ∈ adcForms n, run f (cFlag s.regs.f).toNat)

/-- R231, R290, R293, R294, R298: `SUB A,s`, `SBC A,s`, and `CP A,s`, which leaves A as it is.
Rests on the spec's own z is decision D7. -/
def Obligations.SubSbcAndCp : Prop :=
  ∀ (s : State) (n : Byte),
    let run := fun (f : Form Src) (cin : Nat) (keep : Bool) =>
      let a := s.regs.a.toNat
      let v := (srcValue s f.arg).toNat
      let r := (256 + a - (v + cin)) % 256
      f.decodes ∧ ∃ t, exec f.instr s = .next t ∧ t.regs.a.toNat = (if keep then a else r) ∧
        flagsOf t.regs.f = (decide (r = 0), true, decide (a % 16 < v % 16 + cin), decide (a < v + cin)) ∧
        onlyAccumulator s t ∧ sameButRegs (srcState s f.arg) t ∧ cellsSame s t
    (∀ f ∈ subForms n, run f 0 false) ∧ (∀ f ∈ sbcForms n, run f (cFlag s.regs.f).toNat false) ∧
    (∀ f ∈ cpForms n, run f 0 true)

/-- R232, R233, R234, R290, R295, R296, R297: `AND A,s`, `XOR A,s`, `OR A,s`: each bit of A, and the flags. -/
def Obligations.AndXorOr : Prop :=
  ∀ (s : State) (n : Byte),
    let run := fun (f : Form Src) (bit : Bool → Bool → Bool) (h : Bool) =>
      f.decodes ∧ ∃ t, exec f.instr s = .next t ∧
        (∀ k, k < 8 → bitOf t.regs.a k = bit (bitOf s.regs.a k) (bitOf (srcValue s f.arg) k)) ∧
        flagsOf t.regs.f = (decide (t.regs.a = 0), false, h, false) ∧
        onlyAccumulator s t ∧ sameButRegs (srcState s f.arg) t ∧ cellsSame s t
    (∀ f ∈ andForms n, run f and true) ∧ (∀ f ∈ xorForms n, run f xor false) ∧ (∀ f ∈ orForms n, run f or false)

/-- R235, R236, R299, R300, R301, R302: `INC` and `DEC` of a register and of the byte at HL; CY is kept. -/
def Obligations.IncAndDec : Prop :=
  ∀ (s : State),
    (∀ f ∈ incForms, f.decodes ∧
      let v := (targetValue s f.arg).toNat
      rewrites f.instr s f.arg (BitVec.ofNat 8 (v + 1)) (decide (v = 255), false, decide (v % 16 = 15), cFlag s.regs.f)) ∧
    (∀ f ∈ decForms, f.decodes ∧
      let v := (targetValue s f.arg).toNat
      rewrites f.instr s f.arg (BitVec.ofNat 8 (v + 255)) (decide (v = 1), true, decide (v % 16 = 0), cFlag s.regs.f))

/-- R239, R303 to R306: `DAA`: the adjustment by N, HF, CY and the two nibbles of the old A; HF becomes 0 and N stays. `CPL`, `SCF`
and `CCF`.
Rests on the spec's own decisions D8, D9. -/
def Obligations.DecimalAdjustAndCarry : Prop :=
  (∀ s : State,
     let a := s.regs.a.toNat
     let n := nFlag s.regs.f
     let h := hFlag s.regs.f
     let c := cFlag s.regs.f
     let carry := if n then c else c || decide (0x99 < a)
     let adj := (if (if n then h else h || decide (9 < a % 16)) then 0x06 else 0) + (if carry then 0x60 else 0)
     decodeBytes [0x27] = .ok (.daa, []) ∧
     ∃ t, exec .daa s = .next t ∧ t.regs.a.toNat = (if n then 256 + a - adj else a + adj) % 256 ∧
       flagsOf t.regs.f = (decide (t.regs.a = 0), n, false, carry) ∧ onlyAccumulator s t ∧ sameButRegs s t) ∧
  (∀ s : State,
     (decodeBytes [0x2F] = .ok (.cpl, []) ∧ ∃ t, exec .cpl s = .next t ∧ t.regs.a.toNat = 255 - s.regs.a.toNat ∧
       flagsOf t.regs.f = (zFlag s.regs.f, true, true, cFlag s.regs.f) ∧ onlyAccumulator s t ∧ sameButRegs s t) ∧
     (decodeBytes [0x37] = .ok (.scf, []) ∧ ∃ t, exec .scf s = .next t ∧ t.regs.a = s.regs.a ∧
       flagsOf t.regs.f = (zFlag s.regs.f, false, false, true) ∧ onlyAccumulator s t ∧ sameButRegs s t) ∧
     (decodeBytes [0x3F] = .ok (.ccf, []) ∧ ∃ t, exec .ccf s = .next t ∧ t.regs.a = s.regs.a ∧
       flagsOf t.regs.f = (zFlag s.regs.f, false, false, !cFlag s.regs.f) ∧ onlyAccumulator s t ∧ sameButRegs s t))

/-- R239: the testable property of `DAA`: after `ADD A,n` of two BCD numbers, `DAA` leaves their BCD sum and its carry; after
`SUB A,n`, their BCD difference and its borrow.
The form of `DAA` is decision D8; the property of a subtraction is the one D8 records. -/
def Obligations.BcdArithmetic : Prop :=
  ∀ (s : State) (x y : Nat), x < 100 → y < 100 → s.regs.a = bcd x →
    (∃ t u, exec (.addAN (bcd y)) s = .next t ∧ exec .daa t = .next u ∧
      u.regs.a = bcd ((x + y) % 100) ∧ cFlag u.regs.f = decide (100 ≤ x + y)) ∧
    (∃ t u, exec (.subAN (bcd y)) s = .next t ∧ exec .daa t = .next u ∧
      u.regs.a = bcd ((100 + x - y) % 100) ∧ cFlag u.regs.f = decide (x < y))

/-- R237, R310, R311, R312: `ADD HL,rr`: the carries of bits 11 and 15, Z and N kept. `INC rr` and `DEC rr` wrap modulo
65536 and change no flag. -/
def Obligations.SixteenBitArithmetic : Prop :=
  (∀ (s : State), ∀ f ∈ addHLForms, f.decodes ∧
     let x := s.hl.toNat
     let y := (s.regs.get16 f.arg).toNat
     ∃ t, exec f.instr s = .next t ∧ t.hl.toNat = (x + y) % 65536 ∧
       flagsOf t.regs.f =
         (zFlag s.regs.f, nFlag s.regs.f, decide (x % 4096 + y % 4096 > 4095), decide (x + y > 65535)) ∧
       t.regs = { s.regs with h := t.regs.h, l := t.regs.l, f := t.regs.f } ∧ lowNibbleSame s t ∧ sameButRegs s t) ∧
  (∀ (s : State),
     (∀ f ∈ incPairForms, f.decodes ∧ ∃ t, exec f.instr s = .next t ∧
       onlyPair s t f.arg (BitVec.ofNat 16 ((s.regs.get16 f.arg).toNat + 1)) ∧ sameButRegs s t) ∧
     (∀ f ∈ decPairForms, f.decodes ∧ ∃ t, exec f.instr s = .next t ∧
       onlyPair s t f.arg (BitVec.ofNat 16 ((s.regs.get16 f.arg).toNat + 65535)) ∧ sameButRegs s t))

/-- R238, R283, R313 (the spec's own decision D9): `LD HL,SP+e` and `ADD SP,e`: the signed displacement modulo 65536, Z and N
cleared, HF and CY the carries of the unsigned sum of the low byte of SP and the displacement byte. -/
def Obligations.DisplacementAddition : Prop :=
  ∀ (s : State) (e : Byte), ∀ f ∈ addSpForms e, f.decodes ∧
    let sp := s.regs.sp.toNat
    ∃ t, exec f.instr s = .next t ∧ ((t.regs.get16 f.arg).toNat : Int) = (sp + e.toInt) % 65536 ∧
      flagsOf t.regs.f = (false, false, decide (sp % 16 + e.toNat % 16 > 15), decide (sp % 256 + e.toNat > 255)) ∧
      t.regs = (if f.arg = .hl then { s.regs with h := t.regs.h, l := t.regs.l, f := t.regs.f }
        else { s.regs with sp := t.regs.sp, f := t.regs.f }) ∧
      lowNibbleSame s t ∧ sameButRegs s t

/-! ## Rotates, shifts, bits -/

/-- R240 to R243, R320 to R323: `RLCA`, `RRCA`, `RLA`, `RRA`; Z is always cleared.
Rests on the spec's own decision D9. -/
def Obligations.AccumulatorRotates : Prop :=
  ∀ s : State,
    let v := s.regs.a.toNat
    let cin := (cFlag s.regs.f).toNat
    let run := fun (op : Byte) (i : Instr) (r : Nat) (c : Bool) =>
      decodeBytes [op] = .ok (i, []) ∧ ∃ t, exec i s = .next t ∧ t.regs.a.toNat = r ∧
        flagsOf t.regs.f = (false, false, false, c) ∧ onlyAccumulator s t ∧ sameButRegs s t
    run 0x07 .rlca (2 * v % 256 + v / 128) (decide (128 ≤ v)) ∧ run 0x0F .rrca (v / 2 + v % 2 * 128) (decide (v % 2 = 1)) ∧
    run 0x17 .rla (2 * v % 256 + cin) (decide (128 ≤ v)) ∧ run 0x1F .rra (v / 2 + cin * 128) (decide (v % 2 = 1))

/-- R240 to R247, R324 to R332: `RLC`, `RRC`, `RL`, `RR`, `SLA`, `SRA`, `SWAP`, `SRL` of a register and of the byte at HL: Z from the
result, CY the bit shifted out, which `SWAP` clears.
Rests on the spec's own decision D9. -/
def Obligations.RotatesAndShifts : Prop :=
  (∀ s : State,
     let cin := (cFlag s.regs.f).toNat
     let run := fun (f : Form Target) (fn : Nat → Nat) (c : Nat → Bool) =>
       let v := (targetValue s f.arg).toNat
       f.decodes ∧ rewrites f.instr s f.arg (BitVec.ofNat 8 (fn v)) (decide (fn v = 0), false, false, c v)
     (∀ f ∈ rlcForms, run f (fun v => 2 * v % 256 + v / 128) (fun v => decide (128 ≤ v))) ∧
     (∀ f ∈ rrcForms, run f (fun v => v / 2 + v % 2 * 128) (fun v => decide (v % 2 = 1))) ∧
     (∀ f ∈ rlForms, run f (fun v => 2 * v % 256 + cin) (fun v => decide (128 ≤ v))) ∧
     (∀ f ∈ rrForms, run f (fun v => v / 2 + cin * 128) (fun v => decide (v % 2 = 1)))) ∧
  (∀ s : State,
     let run := fun (f : Form Target) (fn : Nat → Nat) (c : Nat → Bool) =>
       let v := (targetValue s f.arg).toNat
       f.decodes ∧ rewrites f.instr s f.arg (BitVec.ofNat 8 (fn v)) (decide (fn v = 0), false, false, c v)
     (∀ f ∈ slaForms, run f (fun v => 2 * v % 256) (fun v => decide (128 ≤ v))) ∧
     (∀ f ∈ sraForms, run f (fun v => v / 2 + v / 128 * 128) (fun v => decide (v % 2 = 1))) ∧
     (∀ f ∈ swapForms, run f (fun v => v % 16 * 16 + v / 16) (fun _ => false)) ∧
     (∀ f ∈ srlForms, run f (fun v => v / 2) (fun v => decide (v % 2 = 1))))

/-- R248, R324, R333: `BIT b,t`: Z tells that the bit is 0; the operand is read and not written.
Rests on the spec's own decision D9. -/
def Obligations.BitTest : Prop :=
  ∀ (s : State), ∀ f ∈ bitForms, f.decodes ∧ f.arg.1 < 8 ∧
    ∃ t, exec f.instr s = .next t ∧
      flagsOf t.regs.f = (decide ((targetValue s f.arg.2).toNat / 2 ^ f.arg.1 % 2 = 0), false, true, cFlag s.regs.f) ∧
      lowNibbleSame s t ∧ t.regs = { s.regs with f := t.regs.f } ∧ cellsSame s t ∧
      sameButRegs (match f.arg.2 with | .reg _ => s | .memHL => (busRead s s.hl).2) t

/-- R324, R334, R335: `RES b,t` and `SET b,t`: one bit of the operand, written back in every case; F is not written. -/
def Obligations.ResetAndSetBit : Prop :=
  ∀ (s : State),
    let run := fun (f : Form (Nat × Target)) (b : Bool) =>
      f.decodes ∧ f.arg.1 < 8 ∧ ∃ r : Byte,
        (∀ k, k < 8 → bitOf r k = if k = f.arg.1 then b else bitOf (targetValue s f.arg.2) k) ∧
        rewrites f.instr s f.arg.2 r (flagsOf s.regs.f)
    (∀ f ∈ resForms, run f false) ∧ (∀ f ∈ setForms, run f true)

/-! ## Control flow -/

/-- R340 to R345: `JP nn`, `JP HL`, `JP cc,nn`, and `JR e`, `JR cc,e`: PC plus the signed displacement, modulo 65536; an untaken
jump changes nothing (PC is already past it). -/
def Obligations.Jumps : Prop :=
  (∀ (s : State) (nn : Word),
     (decodeBytes [0xC3, loByte nn, hiByte nn] = .ok (.jpNn nn, []) ∧
       exec (.jpNn nn) s = .next { s with regs := { s.regs with pc := nn } }) ∧
     (decodeBytes [0xE9] = .ok (.jpHL, []) ∧ exec .jpHL s = .next { s with regs := { s.regs with pc := s.hl } }) ∧
     ∀ f ∈ jpIfForms nn, f.decodes ∧
       (condTrue s.regs.f f.arg → exec f.instr s = .next { s with regs := { s.regs with pc := nn } }) ∧
       (¬ condTrue s.regs.f f.arg → exec f.instr s = .next s)) ∧
  (∀ (s : State) (e : Byte),
     let lands := fun t : State => ((t.regs.pc.toNat : Int) = (s.regs.pc.toNat + e.toInt) % 65536) ∧
       t = { s with regs := { s.regs with pc := t.regs.pc } }
     (decodeBytes [0x18, e] = .ok (.jrE e, []) ∧ ∃ t, exec (.jrE e) s = .next t ∧ lands t) ∧
     ∀ f ∈ jrIfForms e, f.decodes ∧
       (condTrue s.regs.f f.arg → ∃ t, exec f.instr s = .next t ∧ lands t) ∧
       (¬ condTrue s.regs.f f.arg → exec f.instr s = .next s))

/-- R346, R347, R351, R285, R340: `CALL nn`, `CALL cc,nn`, `RST t`: the PC past the instruction is pushed, high byte first,
and PC is the target; nothing is pushed when the condition is false.
The order of the two writes is decision D16. -/
def Obligations.CallsAndRestarts : Prop :=
  ∀ (s : State) (nn : Word),
    let u := busWrite s (s.regs.sp - 1) (hiByte s.regs.pc)
    let m := busWrite u (s.regs.sp - 2) (loByte s.regs.pc)
    let called := fun target : Word => { m with regs := { s.regs with sp := s.regs.sp - 2, pc := target } }
    (decodeBytes [0xCD, loByte nn, hiByte nn] = .ok (.callNn nn, []) ∧ exec (.callNn nn) s = .next (called nn)) ∧
    (∀ f ∈ callIfForms nn, f.decodes ∧ (condTrue s.regs.f f.arg → exec f.instr s = .next (called nn)) ∧
      (¬ condTrue s.regs.f f.arg → exec f.instr s = .next s)) ∧
    (∀ f ∈ rstForms, f.decodes ∧ exec f.instr s = .next (called f.arg)) ∧
    writeFrame s (s.regs.sp - 1) (hiByte s.regs.pc) u ∧ writeFrame u (s.regs.sp - 2) (loByte s.regs.pc) m

/-- R348, R349, R350, R286, R340: `RET`, `RET cc`, `RETI`: PC is popped, low byte first; `RETI` also sets IME; no memory is
read when the condition is false.
`RETI` is decision D13. -/
def Obligations.Returns : Prop :=
  ∀ s : State,
    let lo := busRead s s.regs.sp
    let hi := busRead lo.2 (s.regs.sp + 1)
    let back := { hi.2 with
      regs := { s.regs with sp := s.regs.sp + 2, pc := BitVec.ofNat 16 (256 * hi.1.toNat + lo.1.toNat) } }
    (decodeBytes [0xC9] = .ok (.ret, []) ∧ exec .ret s = .next back) ∧
    (∀ f ∈ retIfForms, f.decodes ∧ (condTrue s.regs.f f.arg → exec f.instr s = .next back) ∧
      (¬ condTrue s.regs.f f.arg → exec f.instr s = .next s)) ∧
    (decodeBytes [0xD9] = .ok (.reti, []) ∧ exec .reti s = .next { back with ime := true }) ∧
    cellsSame s back

/-! ## System instructions -/

/-- R360 to R364, R366, R39: `NOP`, `HALT`, `DI`, `EI`: the one thing each writes. `STOP`, whatever its second byte: on a CGB with
KEY1 bit 0 set it toggles the speed and leaves the new speed in bit 7 of KEY1, all else zero; otherwise it does nothing. An
illegal byte is reported, with its address, and nothing else happens.
Rests on the spec's own decisions D11, D13, D18, D19, D51. -/
def Obligations.SystemInstructions : Prop :=
  (∀ s : State,
     (decodeBytes [0x00] = .ok (.nop, []) ∧ exec .nop s = .next s) ∧
     (decodeBytes [0x76] = .ok (.halt, []) ∧ exec .halt s = .next { s with mode := .halted }) ∧
     (decodeBytes [0xF3] = .ok (.di, []) ∧ exec .di s = .next { s with ime := false, eiDelay := 0 }) ∧
     (decodeBytes [0xFB] = .ok (.ei, []) ∧ exec .ei s = .next { s with eiDelay := 2 })) ∧
  (∀ (s : State) (b : Byte), decodeBytes [0x10, b] = .ok (.stop b, []) ∧
     (s.cart.cgb = true → bitOf (readIo s 0x4D) 0 = true →
       ∃ t, exec (.stop b) s = .next t ∧ t.doubleSpeed = !s.doubleSpeed ∧
         storedAt { s with doubleSpeed := !s.doubleSpeed } .io 0x4D (if s.doubleSpeed then 0x00 else 0x80) t) ∧
     (¬ (s.cart.cgb = true ∧ bitOf (readIo s 0x4D) 0 = true) → exec (.stop b) s = .next s)) ∧
  (∀ (s : State), ∀ f ∈ illegalForms, f.decodes ∧
     exec f.instr s = .next { s with out := .illegalOpcode (s.regs.pc - 1) f.arg :: s.out })
end

