-- ==== Sys2Proof/Laws/State.lean ====
section
/-! SUPPORT. One lemma per field per update of the state, so that no later proof unfolds a record update. -/

namespace Sys2Proof.Machine

@[simp] theorem setReg8_regs (s : State) (r : Reg8) (v : Byte) : (setReg8 s r v).regs = s.regs.set8 r v := rfl
@[simp] theorem setReg8_ime (s : State) (r : Reg8) (v : Byte) : (setReg8 s r v).ime = s.ime := rfl
@[simp] theorem setReg8_eiDelay (s : State) (r : Reg8) (v : Byte) : (setReg8 s r v).eiDelay = s.eiDelay := rfl
@[simp] theorem setReg8_mode (s : State) (r : Reg8) (v : Byte) : (setReg8 s r v).mode = s.mode := rfl
@[simp] theorem setReg8_clock (s : State) (r : Reg8) (v : Byte) : (setReg8 s r v).clock = s.clock := rfl
@[simp] theorem setReg8_doubleSpeed (s : State) (r : Reg8) (v : Byte) : (setReg8 s r v).doubleSpeed = s.doubleSpeed := rfl
@[simp] theorem setReg8_cart (s : State) (r : Reg8) (v : Byte) : (setReg8 s r v).cart = s.cart := rfl
@[simp] theorem setReg8_mbc (s : State) (r : Reg8) (v : Byte) : (setReg8 s r v).mbc = s.mbc := rfl
@[simp] theorem setReg8_rtc (s : State) (r : Reg8) (v : Byte) : (setReg8 s r v).rtc = s.rtc := rfl
@[simp] theorem setReg8_rtcAnchor (s : State) (r : Reg8) (v : Byte) : (setReg8 s r v).rtcAnchor = s.rtcAnchor := rfl
@[simp] theorem setReg8_vramBank (s : State) (r : Reg8) (v : Byte) : (setReg8 s r v).vramBank = s.vramBank := rfl
@[simp] theorem setReg8_wramBank (s : State) (r : Reg8) (v : Byte) : (setReg8 s r v).wramBank = s.wramBank := rfl
@[simp] theorem setReg8_hdmaActive (s : State) (r : Reg8) (v : Byte) : (setReg8 s r v).hdmaActive = s.hdmaActive := rfl
@[simp] theorem setReg8_mem (s : State) (r : Reg8) (v : Byte) : (setReg8 s r v).mem = s.mem := rfl
@[simp] theorem setReg8_joypad (s : State) (r : Reg8) (v : Byte) : (setReg8 s r v).joypad = s.joypad := rfl
@[simp] theorem setReg8_wallDraws (s : State) (r : Reg8) (v : Byte) : (setReg8 s r v).wallDraws = s.wallDraws := rfl
@[simp] theorem setReg8_resets (s : State) (r : Reg8) (v : Byte) : (setReg8 s r v).resets = s.resets := rfl
@[simp] theorem setReg8_out (s : State) (r : Reg8) (v : Byte) : (setReg8 s r v).out = s.out := rfl

@[simp] theorem setPair_regs (s : State) (p : Pair) (w : Word) : (setPair s p w).regs = s.regs.set16 p w := rfl
@[simp] theorem setPair_ime (s : State) (p : Pair) (w : Word) : (setPair s p w).ime = s.ime := rfl
@[simp] theorem setPair_eiDelay (s : State) (p : Pair) (w : Word) : (setPair s p w).eiDelay = s.eiDelay := rfl
@[simp] theorem setPair_mode (s : State) (p : Pair) (w : Word) : (setPair s p w).mode = s.mode := rfl
@[simp] theorem setPair_clock (s : State) (p : Pair) (w : Word) : (setPair s p w).clock = s.clock := rfl
@[simp] theorem setPair_doubleSpeed (s : State) (p : Pair) (w : Word) : (setPair s p w).doubleSpeed = s.doubleSpeed := rfl
@[simp] theorem setPair_cart (s : State) (p : Pair) (w : Word) : (setPair s p w).cart = s.cart := rfl
@[simp] theorem setPair_mbc (s : State) (p : Pair) (w : Word) : (setPair s p w).mbc = s.mbc := rfl
@[simp] theorem setPair_rtc (s : State) (p : Pair) (w : Word) : (setPair s p w).rtc = s.rtc := rfl
@[simp] theorem setPair_rtcAnchor (s : State) (p : Pair) (w : Word) : (setPair s p w).rtcAnchor = s.rtcAnchor := rfl
@[simp] theorem setPair_vramBank (s : State) (p : Pair) (w : Word) : (setPair s p w).vramBank = s.vramBank := rfl
@[simp] theorem setPair_wramBank (s : State) (p : Pair) (w : Word) : (setPair s p w).wramBank = s.wramBank := rfl
@[simp] theorem setPair_hdmaActive (s : State) (p : Pair) (w : Word) : (setPair s p w).hdmaActive = s.hdmaActive := rfl
@[simp] theorem setPair_mem (s : State) (p : Pair) (w : Word) : (setPair s p w).mem = s.mem := rfl
@[simp] theorem setPair_joypad (s : State) (p : Pair) (w : Word) : (setPair s p w).joypad = s.joypad := rfl
@[simp] theorem setPair_wallDraws (s : State) (p : Pair) (w : Word) : (setPair s p w).wallDraws = s.wallDraws := rfl
@[simp] theorem setPair_resets (s : State) (p : Pair) (w : Word) : (setPair s p w).resets = s.resets := rfl
@[simp] theorem setPair_out (s : State) (p : Pair) (w : Word) : (setPair s p w).out = s.out := rfl

@[simp] theorem setPc_regs (s : State) (w : Word) : (setPc s w).regs = { s.regs with pc := w } := rfl
@[simp] theorem setPc_ime (s : State) (w : Word) : (setPc s w).ime = s.ime := rfl
@[simp] theorem setPc_eiDelay (s : State) (w : Word) : (setPc s w).eiDelay = s.eiDelay := rfl
@[simp] theorem setPc_mode (s : State) (w : Word) : (setPc s w).mode = s.mode := rfl
@[simp] theorem setPc_clock (s : State) (w : Word) : (setPc s w).clock = s.clock := rfl
@[simp] theorem setPc_doubleSpeed (s : State) (w : Word) : (setPc s w).doubleSpeed = s.doubleSpeed := rfl
@[simp] theorem setPc_cart (s : State) (w : Word) : (setPc s w).cart = s.cart := rfl
@[simp] theorem setPc_mbc (s : State) (w : Word) : (setPc s w).mbc = s.mbc := rfl
@[simp] theorem setPc_rtc (s : State) (w : Word) : (setPc s w).rtc = s.rtc := rfl
@[simp] theorem setPc_rtcAnchor (s : State) (w : Word) : (setPc s w).rtcAnchor = s.rtcAnchor := rfl
@[simp] theorem setPc_vramBank (s : State) (w : Word) : (setPc s w).vramBank = s.vramBank := rfl
@[simp] theorem setPc_wramBank (s : State) (w : Word) : (setPc s w).wramBank = s.wramBank := rfl
@[simp] theorem setPc_hdmaActive (s : State) (w : Word) : (setPc s w).hdmaActive = s.hdmaActive := rfl
@[simp] theorem setPc_mem (s : State) (w : Word) : (setPc s w).mem = s.mem := rfl
@[simp] theorem setPc_joypad (s : State) (w : Word) : (setPc s w).joypad = s.joypad := rfl
@[simp] theorem setPc_wallDraws (s : State) (w : Word) : (setPc s w).wallDraws = s.wallDraws := rfl
@[simp] theorem setPc_resets (s : State) (w : Word) : (setPc s w).resets = s.resets := rfl
@[simp] theorem setPc_out (s : State) (w : Word) : (setPc s w).out = s.out := rfl

@[simp] theorem setFlags_regs (s : State) (o : FlagOut) : (setFlags s o).regs = { s.regs with f := writeFlags s.regs.f o } := rfl
@[simp] theorem setFlags_ime (s : State) (o : FlagOut) : (setFlags s o).ime = s.ime := rfl
@[simp] theorem setFlags_eiDelay (s : State) (o : FlagOut) : (setFlags s o).eiDelay = s.eiDelay := rfl
@[simp] theorem setFlags_mode (s : State) (o : FlagOut) : (setFlags s o).mode = s.mode := rfl
@[simp] theorem setFlags_clock (s : State) (o : FlagOut) : (setFlags s o).clock = s.clock := rfl
@[simp] theorem setFlags_doubleSpeed (s : State) (o : FlagOut) : (setFlags s o).doubleSpeed = s.doubleSpeed := rfl
@[simp] theorem setFlags_cart (s : State) (o : FlagOut) : (setFlags s o).cart = s.cart := rfl
@[simp] theorem setFlags_mbc (s : State) (o : FlagOut) : (setFlags s o).mbc = s.mbc := rfl
@[simp] theorem setFlags_rtc (s : State) (o : FlagOut) : (setFlags s o).rtc = s.rtc := rfl
@[simp] theorem setFlags_rtcAnchor (s : State) (o : FlagOut) : (setFlags s o).rtcAnchor = s.rtcAnchor := rfl
@[simp] theorem setFlags_vramBank (s : State) (o : FlagOut) : (setFlags s o).vramBank = s.vramBank := rfl
@[simp] theorem setFlags_wramBank (s : State) (o : FlagOut) : (setFlags s o).wramBank = s.wramBank := rfl
@[simp] theorem setFlags_hdmaActive (s : State) (o : FlagOut) : (setFlags s o).hdmaActive = s.hdmaActive := rfl
@[simp] theorem setFlags_mem (s : State) (o : FlagOut) : (setFlags s o).mem = s.mem := rfl
@[simp] theorem setFlags_joypad (s : State) (o : FlagOut) : (setFlags s o).joypad = s.joypad := rfl
@[simp] theorem setFlags_wallDraws (s : State) (o : FlagOut) : (setFlags s o).wallDraws = s.wallDraws := rfl
@[simp] theorem setFlags_resets (s : State) (o : FlagOut) : (setFlags s o).resets = s.resets := rfl
@[simp] theorem setFlags_out (s : State) (o : FlagOut) : (setFlags s o).out = s.out := rfl

@[simp] theorem writeCell_regs (s : State) (r : Region) (k : Nat) (b : Byte) : (writeCell s r k b).regs = s.regs := rfl
@[simp] theorem writeCell_ime (s : State) (r : Region) (k : Nat) (b : Byte) : (writeCell s r k b).ime = s.ime := rfl
@[simp] theorem writeCell_eiDelay (s : State) (r : Region) (k : Nat) (b : Byte) : (writeCell s r k b).eiDelay = s.eiDelay := rfl
@[simp] theorem writeCell_mode (s : State) (r : Region) (k : Nat) (b : Byte) : (writeCell s r k b).mode = s.mode := rfl
@[simp] theorem writeCell_clock (s : State) (r : Region) (k : Nat) (b : Byte) : (writeCell s r k b).clock = s.clock := rfl
@[simp] theorem writeCell_doubleSpeed (s : State) (r : Region) (k : Nat) (b : Byte) : (writeCell s r k b).doubleSpeed = s.doubleSpeed := rfl
@[simp] theorem writeCell_cart (s : State) (r : Region) (k : Nat) (b : Byte) : (writeCell s r k b).cart = s.cart := rfl
@[simp] theorem writeCell_mbc (s : State) (r : Region) (k : Nat) (b : Byte) : (writeCell s r k b).mbc = s.mbc := rfl
@[simp] theorem writeCell_rtc (s : State) (r : Region) (k : Nat) (b : Byte) : (writeCell s r k b).rtc = s.rtc := rfl
@[simp] theorem writeCell_rtcAnchor (s : State) (r : Region) (k : Nat) (b : Byte) : (writeCell s r k b).rtcAnchor = s.rtcAnchor := rfl
@[simp] theorem writeCell_vramBank (s : State) (r : Region) (k : Nat) (b : Byte) : (writeCell s r k b).vramBank = s.vramBank := rfl
@[simp] theorem writeCell_wramBank (s : State) (r : Region) (k : Nat) (b : Byte) : (writeCell s r k b).wramBank = s.wramBank := rfl
@[simp] theorem writeCell_hdmaActive (s : State) (r : Region) (k : Nat) (b : Byte) : (writeCell s r k b).hdmaActive = s.hdmaActive := rfl
@[simp] theorem writeCell_mem (s : State) (r : Region) (k : Nat) (b : Byte) : (writeCell s r k b).mem = s.mem.put r (Memory.write r (s.mem.get r) k b) := rfl
@[simp] theorem writeCell_joypad (s : State) (r : Region) (k : Nat) (b : Byte) : (writeCell s r k b).joypad = s.joypad := rfl
@[simp] theorem writeCell_wallDraws (s : State) (r : Region) (k : Nat) (b : Byte) : (writeCell s r k b).wallDraws = s.wallDraws := rfl
@[simp] theorem writeCell_resets (s : State) (r : Region) (k : Nat) (b : Byte) : (writeCell s r k b).resets = s.resets := rfl
@[simp] theorem writeCell_out (s : State) (r : Region) (k : Nat) (b : Byte) : (writeCell s r k b).out = s.out := rfl

@[simp] theorem writeIo_regs (s : State) (o : Nat) (v : Byte) : (writeIo s o v).regs = s.regs := rfl
@[simp] theorem writeIo_ime (s : State) (o : Nat) (v : Byte) : (writeIo s o v).ime = s.ime := rfl
@[simp] theorem writeIo_eiDelay (s : State) (o : Nat) (v : Byte) : (writeIo s o v).eiDelay = s.eiDelay := rfl
@[simp] theorem writeIo_mode (s : State) (o : Nat) (v : Byte) : (writeIo s o v).mode = s.mode := rfl
@[simp] theorem writeIo_clock (s : State) (o : Nat) (v : Byte) : (writeIo s o v).clock = s.clock := rfl
@[simp] theorem writeIo_doubleSpeed (s : State) (o : Nat) (v : Byte) : (writeIo s o v).doubleSpeed = s.doubleSpeed := rfl
@[simp] theorem writeIo_cart (s : State) (o : Nat) (v : Byte) : (writeIo s o v).cart = s.cart := rfl
@[simp] theorem writeIo_mbc (s : State) (o : Nat) (v : Byte) : (writeIo s o v).mbc = s.mbc := rfl
@[simp] theorem writeIo_rtc (s : State) (o : Nat) (v : Byte) : (writeIo s o v).rtc = s.rtc := rfl
@[simp] theorem writeIo_rtcAnchor (s : State) (o : Nat) (v : Byte) : (writeIo s o v).rtcAnchor = s.rtcAnchor := rfl
@[simp] theorem writeIo_vramBank (s : State) (o : Nat) (v : Byte) : (writeIo s o v).vramBank = s.vramBank := rfl
@[simp] theorem writeIo_wramBank (s : State) (o : Nat) (v : Byte) : (writeIo s o v).wramBank = s.wramBank := rfl
@[simp] theorem writeIo_hdmaActive (s : State) (o : Nat) (v : Byte) : (writeIo s o v).hdmaActive = s.hdmaActive := rfl
@[simp] theorem writeIo_mem (s : State) (o : Nat) (v : Byte) : (writeIo s o v).mem = s.mem.put .io (Memory.write .io s.mem.io o v) := rfl
@[simp] theorem writeIo_joypad (s : State) (o : Nat) (v : Byte) : (writeIo s o v).joypad = s.joypad := rfl
@[simp] theorem writeIo_wallDraws (s : State) (o : Nat) (v : Byte) : (writeIo s o v).wallDraws = s.wallDraws := rfl
@[simp] theorem writeIo_resets (s : State) (o : Nat) (v : Byte) : (writeIo s o v).resets = s.resets := rfl
@[simp] theorem writeIo_out (s : State) (o : Nat) (v : Byte) : (writeIo s o v).out = s.out := rfl

@[simp] theorem report_regs (s : State) (e : Event) : (report s e).regs = s.regs := rfl
@[simp] theorem report_ime (s : State) (e : Event) : (report s e).ime = s.ime := rfl
@[simp] theorem report_eiDelay (s : State) (e : Event) : (report s e).eiDelay = s.eiDelay := rfl
@[simp] theorem report_mode (s : State) (e : Event) : (report s e).mode = s.mode := rfl
@[simp] theorem report_clock (s : State) (e : Event) : (report s e).clock = s.clock := rfl
@[simp] theorem report_doubleSpeed (s : State) (e : Event) : (report s e).doubleSpeed = s.doubleSpeed := rfl
@[simp] theorem report_cart (s : State) (e : Event) : (report s e).cart = s.cart := rfl
@[simp] theorem report_mbc (s : State) (e : Event) : (report s e).mbc = s.mbc := rfl
@[simp] theorem report_rtc (s : State) (e : Event) : (report s e).rtc = s.rtc := rfl
@[simp] theorem report_rtcAnchor (s : State) (e : Event) : (report s e).rtcAnchor = s.rtcAnchor := rfl
@[simp] theorem report_vramBank (s : State) (e : Event) : (report s e).vramBank = s.vramBank := rfl
@[simp] theorem report_wramBank (s : State) (e : Event) : (report s e).wramBank = s.wramBank := rfl
@[simp] theorem report_hdmaActive (s : State) (e : Event) : (report s e).hdmaActive = s.hdmaActive := rfl
@[simp] theorem report_mem (s : State) (e : Event) : (report s e).mem = s.mem := rfl
@[simp] theorem report_joypad (s : State) (e : Event) : (report s e).joypad = s.joypad := rfl
@[simp] theorem report_wallDraws (s : State) (e : Event) : (report s e).wallDraws = s.wallDraws := rfl
@[simp] theorem report_resets (s : State) (e : Event) : (report s e).resets = s.resets := rfl
@[simp] theorem report_out (s : State) (e : Event) : (report s e).out = e :: s.out := rfl

@[simp] theorem mbcWrite_regs (s : State) (a : Word) (v : Byte) : (mbcWrite s a v).regs = s.regs := rfl
@[simp] theorem mbcWrite_ime (s : State) (a : Word) (v : Byte) : (mbcWrite s a v).ime = s.ime := rfl
@[simp] theorem mbcWrite_eiDelay (s : State) (a : Word) (v : Byte) : (mbcWrite s a v).eiDelay = s.eiDelay := rfl
@[simp] theorem mbcWrite_mode (s : State) (a : Word) (v : Byte) : (mbcWrite s a v).mode = s.mode := rfl
@[simp] theorem mbcWrite_clock (s : State) (a : Word) (v : Byte) : (mbcWrite s a v).clock = s.clock := rfl
@[simp] theorem mbcWrite_doubleSpeed (s : State) (a : Word) (v : Byte) : (mbcWrite s a v).doubleSpeed = s.doubleSpeed := rfl
@[simp] theorem mbcWrite_cart (s : State) (a : Word) (v : Byte) : (mbcWrite s a v).cart = s.cart := rfl
@[simp] theorem mbcWrite_mbc (s : State) (a : Word) (v : Byte) : (mbcWrite s a v).mbc = mbcCommand s.cart.mapper s.mbc a v := rfl
@[simp] theorem mbcWrite_rtc (s : State) (a : Word) (v : Byte) : (mbcWrite s a v).rtc = s.rtc := rfl
@[simp] theorem mbcWrite_rtcAnchor (s : State) (a : Word) (v : Byte) : (mbcWrite s a v).rtcAnchor = s.rtcAnchor := rfl
@[simp] theorem mbcWrite_vramBank (s : State) (a : Word) (v : Byte) : (mbcWrite s a v).vramBank = s.vramBank := rfl
@[simp] theorem mbcWrite_wramBank (s : State) (a : Word) (v : Byte) : (mbcWrite s a v).wramBank = s.wramBank := rfl
@[simp] theorem mbcWrite_hdmaActive (s : State) (a : Word) (v : Byte) : (mbcWrite s a v).hdmaActive = s.hdmaActive := rfl
@[simp] theorem mbcWrite_mem (s : State) (a : Word) (v : Byte) : (mbcWrite s a v).mem = s.mem := rfl
@[simp] theorem mbcWrite_joypad (s : State) (a : Word) (v : Byte) : (mbcWrite s a v).joypad = s.joypad := rfl
@[simp] theorem mbcWrite_wallDraws (s : State) (a : Word) (v : Byte) : (mbcWrite s a v).wallDraws = s.wallDraws := rfl
@[simp] theorem mbcWrite_resets (s : State) (a : Word) (v : Byte) : (mbcWrite s a v).resets = s.resets := rfl
@[simp] theorem mbcWrite_out (s : State) (a : Word) (v : Byte) : (mbcWrite s a v).out = s.out := rfl

@[simp] theorem rtcUpdate_regs (s : State) : (rtcUpdate s).regs = s.regs := rfl
@[simp] theorem rtcUpdate_ime (s : State) : (rtcUpdate s).ime = s.ime := rfl
@[simp] theorem rtcUpdate_eiDelay (s : State) : (rtcUpdate s).eiDelay = s.eiDelay := rfl
@[simp] theorem rtcUpdate_mode (s : State) : (rtcUpdate s).mode = s.mode := rfl
@[simp] theorem rtcUpdate_clock (s : State) : (rtcUpdate s).clock = s.clock := rfl
@[simp] theorem rtcUpdate_doubleSpeed (s : State) : (rtcUpdate s).doubleSpeed = s.doubleSpeed := rfl
@[simp] theorem rtcUpdate_cart (s : State) : (rtcUpdate s).cart = s.cart := rfl
@[simp] theorem rtcUpdate_mbc (s : State) : (rtcUpdate s).mbc = s.mbc := rfl
@[simp] theorem rtcUpdate_rtc (s : State) : (rtcUpdate s).rtc = rtcAdvance s.rtc (Config.wallClockTick s.wallDraws) := rfl
@[simp] theorem rtcUpdate_rtcAnchor (s : State) : (rtcUpdate s).rtcAnchor = s.rtcAnchor + Config.wallClockTick s.wallDraws := rfl
@[simp] theorem rtcUpdate_vramBank (s : State) : (rtcUpdate s).vramBank = s.vramBank := rfl
@[simp] theorem rtcUpdate_wramBank (s : State) : (rtcUpdate s).wramBank = s.wramBank := rfl
@[simp] theorem rtcUpdate_hdmaActive (s : State) : (rtcUpdate s).hdmaActive = s.hdmaActive := rfl
@[simp] theorem rtcUpdate_mem (s : State) : (rtcUpdate s).mem = s.mem := rfl
@[simp] theorem rtcUpdate_joypad (s : State) : (rtcUpdate s).joypad = s.joypad := rfl
@[simp] theorem rtcUpdate_wallDraws (s : State) : (rtcUpdate s).wallDraws = s.wallDraws + 1 := rfl
@[simp] theorem rtcUpdate_resets (s : State) : (rtcUpdate s).resets = s.resets := rfl
@[simp] theorem rtcUpdate_out (s : State) : (rtcUpdate s).out = s.out := rfl

/-! Registers. -/

@[simp] theorem set8_b_a (g : Regs) (v : Byte) : (g.set8 .b v).a = g.a := rfl
@[simp] theorem set8_b_f (g : Regs) (v : Byte) : (g.set8 .b v).f = g.f := rfl
@[simp] theorem set8_b_b (g : Regs) (v : Byte) : (g.set8 .b v).b = v := rfl
@[simp] theorem set8_b_c (g : Regs) (v : Byte) : (g.set8 .b v).c = g.c := rfl
@[simp] theorem set8_b_d (g : Regs) (v : Byte) : (g.set8 .b v).d = g.d := rfl
@[simp] theorem set8_b_e (g : Regs) (v : Byte) : (g.set8 .b v).e = g.e := rfl
@[simp] theorem set8_b_h (g : Regs) (v : Byte) : (g.set8 .b v).h = g.h := rfl
@[simp] theorem set8_b_l (g : Regs) (v : Byte) : (g.set8 .b v).l = g.l := rfl
@[simp] theorem set8_b_sp (g : Regs) (v : Byte) : (g.set8 .b v).sp = g.sp := rfl
@[simp] theorem set8_b_pc (g : Regs) (v : Byte) : (g.set8 .b v).pc = g.pc := rfl
@[simp] theorem set8_c_a (g : Regs) (v : Byte) : (g.set8 .c v).a = g.a := rfl
@[simp] theorem set8_c_f (g : Regs) (v : Byte) : (g.set8 .c v).f = g.f := rfl
@[simp] theorem set8_c_b (g : Regs) (v : Byte) : (g.set8 .c v).b = g.b := rfl
@[simp] theorem set8_c_c (g : Regs) (v : Byte) : (g.set8 .c v).c = v := rfl
@[simp] theorem set8_c_d (g : Regs) (v : Byte) : (g.set8 .c v).d = g.d := rfl
@[simp] theorem set8_c_e (g : Regs) (v : Byte) : (g.set8 .c v).e = g.e := rfl
@[simp] theorem set8_c_h (g : Regs) (v : Byte) : (g.set8 .c v).h = g.h := rfl
@[simp] theorem set8_c_l (g : Regs) (v : Byte) : (g.set8 .c v).l = g.l := rfl
@[simp] theorem set8_c_sp (g : Regs) (v : Byte) : (g.set8 .c v).sp = g.sp := rfl
@[simp] theorem set8_c_pc (g : Regs) (v : Byte) : (g.set8 .c v).pc = g.pc := rfl
@[simp] theorem set8_d_a (g : Regs) (v : Byte) : (g.set8 .d v).a = g.a := rfl
@[simp] theorem set8_d_f (g : Regs) (v : Byte) : (g.set8 .d v).f = g.f := rfl
@[simp] theorem set8_d_b (g : Regs) (v : Byte) : (g.set8 .d v).b = g.b := rfl
@[simp] theorem set8_d_c (g : Regs) (v : Byte) : (g.set8 .d v).c = g.c := rfl
@[simp] theorem set8_d_d (g : Regs) (v : Byte) : (g.set8 .d v).d = v := rfl
@[simp] theorem set8_d_e (g : Regs) (v : Byte) : (g.set8 .d v).e = g.e := rfl
@[simp] theorem set8_d_h (g : Regs) (v : Byte) : (g.set8 .d v).h = g.h := rfl
@[simp] theorem set8_d_l (g : Regs) (v : Byte) : (g.set8 .d v).l = g.l := rfl
@[simp] theorem set8_d_sp (g : Regs) (v : Byte) : (g.set8 .d v).sp = g.sp := rfl
@[simp] theorem set8_d_pc (g : Regs) (v : Byte) : (g.set8 .d v).pc = g.pc := rfl
@[simp] theorem set8_e_a (g : Regs) (v : Byte) : (g.set8 .e v).a = g.a := rfl
@[simp] theorem set8_e_f (g : Regs) (v : Byte) : (g.set8 .e v).f = g.f := rfl
@[simp] theorem set8_e_b (g : Regs) (v : Byte) : (g.set8 .e v).b = g.b := rfl
@[simp] theorem set8_e_c (g : Regs) (v : Byte) : (g.set8 .e v).c = g.c := rfl
@[simp] theorem set8_e_d (g : Regs) (v : Byte) : (g.set8 .e v).d = g.d := rfl
@[simp] theorem set8_e_e (g : Regs) (v : Byte) : (g.set8 .e v).e = v := rfl
@[simp] theorem set8_e_h (g : Regs) (v : Byte) : (g.set8 .e v).h = g.h := rfl
@[simp] theorem set8_e_l (g : Regs) (v : Byte) : (g.set8 .e v).l = g.l := rfl
@[simp] theorem set8_e_sp (g : Regs) (v : Byte) : (g.set8 .e v).sp = g.sp := rfl
@[simp] theorem set8_e_pc (g : Regs) (v : Byte) : (g.set8 .e v).pc = g.pc := rfl
@[simp] theorem set8_h_a (g : Regs) (v : Byte) : (g.set8 .h v).a = g.a := rfl
@[simp] theorem set8_h_f (g : Regs) (v : Byte) : (g.set8 .h v).f = g.f := rfl
@[simp] theorem set8_h_b (g : Regs) (v : Byte) : (g.set8 .h v).b = g.b := rfl
@[simp] theorem set8_h_c (g : Regs) (v : Byte) : (g.set8 .h v).c = g.c := rfl
@[simp] theorem set8_h_d (g : Regs) (v : Byte) : (g.set8 .h v).d = g.d := rfl
@[simp] theorem set8_h_e (g : Regs) (v : Byte) : (g.set8 .h v).e = g.e := rfl
@[simp] theorem set8_h_h (g : Regs) (v : Byte) : (g.set8 .h v).h = v := rfl
@[simp] theorem set8_h_l (g : Regs) (v : Byte) : (g.set8 .h v).l = g.l := rfl
@[simp] theorem set8_h_sp (g : Regs) (v : Byte) : (g.set8 .h v).sp = g.sp := rfl
@[simp] theorem set8_h_pc (g : Regs) (v : Byte) : (g.set8 .h v).pc = g.pc := rfl
@[simp] theorem set8_l_a (g : Regs) (v : Byte) : (g.set8 .l v).a = g.a := rfl
@[simp] theorem set8_l_f (g : Regs) (v : Byte) : (g.set8 .l v).f = g.f := rfl
@[simp] theorem set8_l_b (g : Regs) (v : Byte) : (g.set8 .l v).b = g.b := rfl
@[simp] theorem set8_l_c (g : Regs) (v : Byte) : (g.set8 .l v).c = g.c := rfl
@[simp] theorem set8_l_d (g : Regs) (v : Byte) : (g.set8 .l v).d = g.d := rfl
@[simp] theorem set8_l_e (g : Regs) (v : Byte) : (g.set8 .l v).e = g.e := rfl
@[simp] theorem set8_l_h (g : Regs) (v : Byte) : (g.set8 .l v).h = g.h := rfl
@[simp] theorem set8_l_l (g : Regs) (v : Byte) : (g.set8 .l v).l = v := rfl
@[simp] theorem set8_l_sp (g : Regs) (v : Byte) : (g.set8 .l v).sp = g.sp := rfl
@[simp] theorem set8_l_pc (g : Regs) (v : Byte) : (g.set8 .l v).pc = g.pc := rfl
@[simp] theorem set8_a_a (g : Regs) (v : Byte) : (g.set8 .a v).a = v := rfl
@[simp] theorem set8_a_f (g : Regs) (v : Byte) : (g.set8 .a v).f = g.f := rfl
@[simp] theorem set8_a_b (g : Regs) (v : Byte) : (g.set8 .a v).b = g.b := rfl
@[simp] theorem set8_a_c (g : Regs) (v : Byte) : (g.set8 .a v).c = g.c := rfl
@[simp] theorem set8_a_d (g : Regs) (v : Byte) : (g.set8 .a v).d = g.d := rfl
@[simp] theorem set8_a_e (g : Regs) (v : Byte) : (g.set8 .a v).e = g.e := rfl
@[simp] theorem set8_a_h (g : Regs) (v : Byte) : (g.set8 .a v).h = g.h := rfl
@[simp] theorem set8_a_l (g : Regs) (v : Byte) : (g.set8 .a v).l = g.l := rfl
@[simp] theorem set8_a_sp (g : Regs) (v : Byte) : (g.set8 .a v).sp = g.sp := rfl
@[simp] theorem set8_a_pc (g : Regs) (v : Byte) : (g.set8 .a v).pc = g.pc := rfl

@[simp] theorem set16_bc_a (g : Regs) (w : Word) : (g.set16 .bc w).a = g.a := rfl
@[simp] theorem set16_bc_f (g : Regs) (w : Word) : (g.set16 .bc w).f = g.f := rfl
@[simp] theorem set16_bc_b (g : Regs) (w : Word) : (g.set16 .bc w).b = hiByte w := rfl
@[simp] theorem set16_bc_c (g : Regs) (w : Word) : (g.set16 .bc w).c = loByte w := rfl
@[simp] theorem set16_bc_d (g : Regs) (w : Word) : (g.set16 .bc w).d = g.d := rfl
@[simp] theorem set16_bc_e (g : Regs) (w : Word) : (g.set16 .bc w).e = g.e := rfl
@[simp] theorem set16_bc_h (g : Regs) (w : Word) : (g.set16 .bc w).h = g.h := rfl
@[simp] theorem set16_bc_l (g : Regs) (w : Word) : (g.set16 .bc w).l = g.l := rfl
@[simp] theorem set16_bc_sp (g : Regs) (w : Word) : (g.set16 .bc w).sp = g.sp := rfl
@[simp] theorem set16_bc_pc (g : Regs) (w : Word) : (g.set16 .bc w).pc = g.pc := rfl
@[simp] theorem set16_de_a (g : Regs) (w : Word) : (g.set16 .de w).a = g.a := rfl
@[simp] theorem set16_de_f (g : Regs) (w : Word) : (g.set16 .de w).f = g.f := rfl
@[simp] theorem set16_de_b (g : Regs) (w : Word) : (g.set16 .de w).b = g.b := rfl
@[simp] theorem set16_de_c (g : Regs) (w : Word) : (g.set16 .de w).c = g.c := rfl
@[simp] theorem set16_de_d (g : Regs) (w : Word) : (g.set16 .de w).d = hiByte w := rfl
@[simp] theorem set16_de_e (g : Regs) (w : Word) : (g.set16 .de w).e = loByte w := rfl
@[simp] theorem set16_de_h (g : Regs) (w : Word) : (g.set16 .de w).h = g.h := rfl
@[simp] theorem set16_de_l (g : Regs) (w : Word) : (g.set16 .de w).l = g.l := rfl
@[simp] theorem set16_de_sp (g : Regs) (w : Word) : (g.set16 .de w).sp = g.sp := rfl
@[simp] theorem set16_de_pc (g : Regs) (w : Word) : (g.set16 .de w).pc = g.pc := rfl
@[simp] theorem set16_hl_a (g : Regs) (w : Word) : (g.set16 .hl w).a = g.a := rfl
@[simp] theorem set16_hl_f (g : Regs) (w : Word) : (g.set16 .hl w).f = g.f := rfl
@[simp] theorem set16_hl_b (g : Regs) (w : Word) : (g.set16 .hl w).b = g.b := rfl
@[simp] theorem set16_hl_c (g : Regs) (w : Word) : (g.set16 .hl w).c = g.c := rfl
@[simp] theorem set16_hl_d (g : Regs) (w : Word) : (g.set16 .hl w).d = g.d := rfl
@[simp] theorem set16_hl_e (g : Regs) (w : Word) : (g.set16 .hl w).e = g.e := rfl
@[simp] theorem set16_hl_h (g : Regs) (w : Word) : (g.set16 .hl w).h = hiByte w := rfl
@[simp] theorem set16_hl_l (g : Regs) (w : Word) : (g.set16 .hl w).l = loByte w := rfl
@[simp] theorem set16_hl_sp (g : Regs) (w : Word) : (g.set16 .hl w).sp = g.sp := rfl
@[simp] theorem set16_hl_pc (g : Regs) (w : Word) : (g.set16 .hl w).pc = g.pc := rfl
@[simp] theorem set16_sp_a (g : Regs) (w : Word) : (g.set16 .sp w).a = g.a := rfl
@[simp] theorem set16_sp_f (g : Regs) (w : Word) : (g.set16 .sp w).f = g.f := rfl
@[simp] theorem set16_sp_b (g : Regs) (w : Word) : (g.set16 .sp w).b = g.b := rfl
@[simp] theorem set16_sp_c (g : Regs) (w : Word) : (g.set16 .sp w).c = g.c := rfl
@[simp] theorem set16_sp_d (g : Regs) (w : Word) : (g.set16 .sp w).d = g.d := rfl
@[simp] theorem set16_sp_e (g : Regs) (w : Word) : (g.set16 .sp w).e = g.e := rfl
@[simp] theorem set16_sp_h (g : Regs) (w : Word) : (g.set16 .sp w).h = g.h := rfl
@[simp] theorem set16_sp_l (g : Regs) (w : Word) : (g.set16 .sp w).l = g.l := rfl
@[simp] theorem set16_sp_sp (g : Regs) (w : Word) : (g.set16 .sp w).sp = w := rfl
@[simp] theorem set16_sp_pc (g : Regs) (w : Word) : (g.set16 .sp w).pc = g.pc := rfl
@[simp] theorem set16_af_a (g : Regs) (w : Word) : (g.set16 .af w).a = hiByte w := rfl
@[simp] theorem set16_af_f (g : Regs) (w : Word) : (g.set16 .af w).f = loByte w &&& 0xF0 := rfl
@[simp] theorem set16_af_b (g : Regs) (w : Word) : (g.set16 .af w).b = g.b := rfl
@[simp] theorem set16_af_c (g : Regs) (w : Word) : (g.set16 .af w).c = g.c := rfl
@[simp] theorem set16_af_d (g : Regs) (w : Word) : (g.set16 .af w).d = g.d := rfl
@[simp] theorem set16_af_e (g : Regs) (w : Word) : (g.set16 .af w).e = g.e := rfl
@[simp] theorem set16_af_h (g : Regs) (w : Word) : (g.set16 .af w).h = g.h := rfl
@[simp] theorem set16_af_l (g : Regs) (w : Word) : (g.set16 .af w).l = g.l := rfl
@[simp] theorem set16_af_sp (g : Regs) (w : Word) : (g.set16 .af w).sp = g.sp := rfl
@[simp] theorem set16_af_pc (g : Regs) (w : Word) : (g.set16 .af w).pc = g.pc := rfl

/-- Writing a register and reading one. -/
theorem get8_set8 (g : Regs) (r q : Reg8) (v : Byte) : (g.set8 r v).get8 q = if q = r then v else g.get8 q := by
  cases r <;> cases q <;> rfl

/-- An 8-bit register write leaves F, SP and PC alone. -/
@[simp] theorem set8_f (g : Regs) (r : Reg8) (v : Byte) : (g.set8 r v).f = g.f := by cases r <;> rfl
@[simp] theorem set8_sp (g : Regs) (r : Reg8) (v : Byte) : (g.set8 r v).sp = g.sp := by cases r <;> rfl
@[simp] theorem set8_pc (g : Regs) (r : Reg8) (v : Byte) : (g.set8 r v).pc = g.pc := by cases r <;> rfl

/-- A pair write leaves PC alone. -/
@[simp] theorem set16_pc (g : Regs) (p : Pair) (w : Word) : (g.set16 p w).pc = g.pc := by cases p <;> rfl

@[simp] theorem joinBytes_toNat (h l : Byte) : (joinBytes h l).toNat = 256 * h.toNat + l.toNat := by
  have := h.isLt; have := l.isLt
  simp only [joinBytes, BitVec.toNat_ofNat]; omega

@[simp] theorem hiByte_toNat (w : Word) : (hiByte w).toNat = w.toNat / 256 := by
  have := w.isLt
  simp only [hiByte, BitVec.extractLsb'_toNat, Nat.shiftRight_eq_div_pow]; omega

@[simp] theorem loByte_toNat (w : Word) : (loByte w).toNat = w.toNat % 256 := by
  simp [loByte, BitVec.extractLsb'_toNat]

@[simp] theorem hiByte_joinBytes (h l : Byte) : hiByte (joinBytes h l) = h := by
  have := h.isLt; have := l.isLt
  apply BitVec.eq_of_toNat_eq; simp; omega

@[simp] theorem loByte_joinBytes (h l : Byte) : loByte (joinBytes h l) = l := by
  have := h.isLt; have := l.isLt
  apply BitVec.eq_of_toNat_eq; simp; omega

@[simp] theorem joinBytes_hi_lo (w : Word) : joinBytes (hiByte w) (loByte w) = w := by
  apply BitVec.eq_of_toNat_eq; simp; omega

/-- R22: a pair write is observable through the pair view; for AF the low nibble of F is masked (R23). -/
theorem get16_set16 (g : Regs) (p : Pair) (w : Word) (h : p ≠ .af) : (g.set16 p w).get16 p = w := by
  cases p <;> simp [Regs.get16] at h ⊢

end Sys2Proof.Machine
end

