-- ==== Sys2Proof/Laws/Memory.lean ====
section
/-! SUPPORT. Cells: read after write, and the canonical form kept by every memory operation. -/

namespace Sys2Proof.Machine

theorem lookup_insert (m : Memory) (k k' : Nat) (b : Byte) :
    Memory.lookup (Memory.insert m k b) k' = if k' = k then some b else Memory.lookup m k' := by
  induction m with
  | nil => simp [Memory.insert, Memory.lookup]
  | cons c m ih =>
    obtain ⟨i, x⟩ := c
    by_cases h1 : k < i
    · simp [Memory.insert, h1, Memory.lookup]
    · by_cases h2 : k = i
      · subst h2; by_cases h3 : k' = k <;> simp [Memory.insert, Memory.lookup, h3]
      · by_cases h3 : k' = i
        · subst h3; simp [Memory.insert, h1, h2, Memory.lookup, Ne.symm h2]
        · simp [Memory.insert, h1, h2, Memory.lookup, h3, ih]

theorem lookup_erase (m : Memory) (k k' : Nat) :
    Memory.lookup (Memory.erase m k) k' = if k' = k then none else Memory.lookup m k' := by
  induction m with
  | nil => simp [Memory.erase, Memory.lookup]
  | cons c m ih =>
    obtain ⟨i, x⟩ := c
    simp only [Memory.erase] at ih
    by_cases h1 : i = k
    · subst h1
      by_cases h3 : k' = i
      · simpa [Memory.erase, h3] using ih
      · simpa [Memory.erase, Memory.lookup, h3] using ih
    · by_cases h3 : k' = i
      · subst h3; simp [Memory.erase, Memory.lookup, h1]
      · simpa [Memory.erase, Memory.lookup, h1, h3] using ih

@[simp] theorem get_put (m : Mem) (r q : Region) (x : Memory) : (m.put r x).get q = if q = r then x else m.get q := by
  cases r <;> cases q <;> rfl

/-- Read after write: the written cell holds the byte, every other cell of every memory is as it was. -/
theorem readCell_writeCell (s : State) (r q : Region) (k j : Nat) (b : Byte) :
    readCell (writeCell s r k b) q j = if q = r ∧ j = k then b else readCell s q j := by
  by_cases h : q = r
  · subst h
    simp only [readCell, writeCell_mem, get_put, if_true, Memory.write, writeCell_resets, true_and]
    by_cases hf : q.fixed k = some b
    · rw [if_pos hf, lookup_erase]
      by_cases hj : j = k
      · subst hj; simp [Region.unlisted, hf]
      · simp [hj]
    · rw [if_neg hf, lookup_insert]
      by_cases hj : j = k <;> simp [hj]
  · simp [readCell, h]

@[simp] theorem readCell_writeCell_same (s : State) (r : Region) (k : Nat) (b : Byte) :
    readCell (writeCell s r k b) r k = b := by simp [readCell_writeCell]

theorem readIo_writeIo (s : State) (o j : Nat) (b : Byte) : readIo (writeIo s o b) j = if j = o then b else readIo s j := by
  simp [readIo, writeIo, readCell_writeCell]

@[simp] theorem readIo_writeIo_same (s : State) (o : Nat) (b : Byte) : readIo (writeIo s o b) o = b := by
  simp [readIo_writeIo]

/-- A store into a memory other than the I/O file leaves the I/O cells alone. -/
theorem readIo_writeCell (s : State) (r : Region) (k j : Nat) (b : Byte) (h : r ≠ .io) :
    readIo (writeCell s r k b) j = readIo s j := by
  simp [readIo, readCell_writeCell, Ne.symm h]

/-- What a cell holds depends on the memories and the count of resets alone. -/
theorem readCell_congr {s t : State} (hm : t.mem = s.mem) (hr : t.resets = s.resets) (r : Region) (k : Nat) :
    readCell t r k = readCell s r k := by simp [readCell, hm, hr]

theorem readIo_congr {s t : State} (hm : t.mem = s.mem) (hr : t.resets = s.resets) (o : Nat) : readIo t o = readIo s o :=
  readCell_congr hm hr .io o

/-! The canonical form. -/

theorem mem_insert {m : Memory} {k : Nat} {b : Byte} {c : Host.Cell} (h : c ∈ Memory.insert m k b) :
    c = (k, b) ∨ c ∈ m := by
  induction m with
  | nil => simpa [Memory.insert] using h
  | cons d m ih =>
    obtain ⟨i, x⟩ := d
    simp only [Memory.insert] at h
    split at h
    · simpa using h
    · split at h
      · rcases List.mem_cons.1 h with h | h
        · exact .inl h
        · exact .inr (List.mem_cons_of_mem _ h)
      · rcases List.mem_cons.1 h with h | h
        · exact .inr (h ▸ List.mem_cons_self)
        · exact (ih h).imp id (List.mem_cons_of_mem _)

theorem rising_insert {m : Memory} {k : Nat} {b : Byte} (h : m.Pairwise (fun x y => x.1 < y.1)) :
    (Memory.insert m k b).Pairwise (fun x y => x.1 < y.1) := by
  induction m with
  | nil => simp [Memory.insert]
  | cons d m ih =>
    obtain ⟨i, x⟩ := d
    obtain ⟨hd, hm⟩ := List.pairwise_cons.1 h
    simp only [Memory.insert]
    split
    · rename_i hk
      refine List.pairwise_cons.2 ⟨fun c hc => ?_, h⟩
      rcases List.mem_cons.1 hc with rfl | hc
      · exact hk
      · exact hk.trans (hd c hc)
    · split
      · rename_i hk
        subst hk
        exact List.pairwise_cons.2 ⟨hd, hm⟩
      · refine List.pairwise_cons.2 ⟨fun c hc => ?_, ih hm⟩
        rcases mem_insert hc with rfl | hc
        · show i < k
          omega
        · exact hd c hc

/-- A write keeps the canonical form of a memory. -/
theorem write_wf {r : Region} {m : Memory} (k : Nat) (b : Byte) (h : Memory.wf r m = true) :
    Memory.wf r (Memory.write r m k b) = true := by
  simp only [Memory.wf, Bool.and_eq_true, decide_eq_true_eq, List.all_eq_true, bne_iff_ne] at h ⊢
  simp only [Memory.write]
  split
  · refine ⟨h.1.filter _, fun c hc => h.2 c (List.mem_of_mem_filter hc)⟩
  · rename_i hf
    refine ⟨rising_insert h.1, fun c hc => ?_⟩
    rcases mem_insert hc with rfl | hc
    · exact hf
    · exact h.2 c hc

theorem wf_iff (m : Mem) : m.wf = true ↔ ∀ r, Memory.wf r (m.get r) = true := by
  simp only [Mem.wf, Bool.and_eq_true]
  constructor
  · rintro ⟨⟨⟨⟨⟨⟨⟨h1, h2⟩, h3⟩, h4⟩, h5⟩, h6⟩, h7⟩, h8⟩ r
    cases r <;> assumption
  · intro h
    exact ⟨⟨⟨⟨⟨⟨⟨h .rom, h .cram⟩, h .vram⟩, h .wram⟩, h .oam⟩, h .io⟩, h .bgPal⟩, h .objPal⟩

/-- Every store of a cell keeps all memories in canonical form. -/
theorem writeCell_wf {s : State} (r : Region) (k : Nat) (b : Byte) (h : s.mem.wf = true) :
    (writeCell s r k b).mem.wf = true := by
  rw [wf_iff] at h ⊢
  intro q
  rw [writeCell_mem, get_put]
  split
  · rename_i hq; subst hq; exact write_wf k b (h q)
  · exact h q

/-- A store of a cell within the memory's size lists no cell beyond it. -/
theorem writeCell_bound {s : State} {r : Region} {k : Nat} (b : Byte) {n : Region → Nat}
    (h : ∀ q, ∀ c ∈ s.mem.get q, c.1 < n q) (hk : k < n r) :
    ∀ q, ∀ c ∈ (writeCell s r k b).mem.get q, c.1 < n q := by
  intro q c hc
  rw [writeCell_mem, get_put] at hc
  split at hc
  · rename_i hq
    subst hq
    simp only [Memory.write] at hc
    split at hc
    · exact h q c (List.mem_of_mem_filter hc)
    · rcases mem_insert hc with rfl | hc
      · exact hk
      · exact h q c hc
  · exact h q c hc

theorem ofBytes_ge {base : Nat} {bs : List Byte} {c : Host.Cell} (h : c ∈ Memory.ofBytes base bs) : base ≤ c.1 := by
  induction bs generalizing base with
  | nil => simp [Memory.ofBytes] at h
  | cons b bs ih =>
    simp only [Memory.ofBytes] at h
    split at h
    · exact Nat.le_of_succ_le (ih h)
    · rcases List.mem_cons.1 h with rfl | h
      · exact Nat.le_refl _
      · exact Nat.le_of_succ_le (ih h)

/-- The memory made of an image is in canonical form. -/
theorem ofBytes_wf (base : Nat) (bs : List Byte) : Memory.wf .rom (Memory.ofBytes base bs) = true := by
  simp only [Memory.wf, Bool.and_eq_true, decide_eq_true_eq, List.all_eq_true, bne_iff_ne]
  induction bs generalizing base with
  | nil => simp [Memory.ofBytes]
  | cons b bs ih =>
    simp only [Memory.ofBytes]
    split
    · exact ih _
    · rename_i hb
      refine ⟨List.pairwise_cons.2 ⟨fun c hc => ofBytes_ge hc, (ih _).1⟩, fun c hc => ?_⟩
      rcases List.mem_cons.1 hc with rfl | hc
      · simpa [Region.fixed] using Ne.symm hb
      · exact (ih _).2 c hc

end Sys2Proof.Machine
end

