-- ==== Sys2Proof/Laws/Bus.lean ====
section
/-! SUPPORT. What a bus access, a DMA copy and a Timing Driver tick can do to the state, said once for each. -/

namespace Sys2Proof.Machine

/-- The state that no bus access and no tick of the Timing Driver changes. -/
structure BusStep (s t : State) : Prop where
  regs : t.regs = s.regs
  ime : t.ime = s.ime
  eiDelay : t.eiDelay = s.eiDelay
  mode : t.mode = s.mode
  clock : t.clock = s.clock
  doubleSpeed : t.doubleSpeed = s.doubleSpeed
  cart : t.cart = s.cart
  joypad : t.joypad = s.joypad
  resets : t.resets = s.resets
  rom : t.mem.rom = s.mem.rom

theorem BusStep.refl (s : State) : BusStep s s := ⟨rfl, rfl, rfl, rfl, rfl, rfl, rfl, rfl, rfl, rfl⟩

theorem BusStep.trans {s t u : State} (h : BusStep s t) (g : BusStep t u) : BusStep s u :=
  ⟨g.regs.trans h.regs, g.ime.trans h.ime, g.eiDelay.trans h.eiDelay, g.mode.trans h.mode, g.clock.trans h.clock,
    g.doubleSpeed.trans h.doubleSpeed, g.cart.trans h.cart, g.joypad.trans h.joypad, g.resets.trans h.resets,
    g.rom.trans h.rom⟩

theorem busStep_writeCell (s : State) {r : Region} (k : Nat) (b : Byte) (h : r ≠ .rom) :
    BusStep s (writeCell s r k b) := by
  refine ⟨rfl, rfl, rfl, rfl, rfl, rfl, rfl, rfl, rfl, ?_⟩
  cases r <;> first | exact absurd rfl h | rfl

theorem busStep_writeIo (s : State) (o : Nat) (v : Byte) : BusStep s (writeIo s o v) :=
  busStep_writeCell s o v (by decide)

theorem busStep_report (s : State) (e : Event) : BusStep s (report s e) :=
  ⟨rfl, rfl, rfl, rfl, rfl, rfl, rfl, rfl, rfl, rfl⟩

theorem busStep_rtcUpdate (s : State) : BusStep s (rtcUpdate s) := ⟨rfl, rfl, rfl, rfl, rfl, rfl, rfl, rfl, rfl, rfl⟩

theorem busStep_mbcWrite (s : State) (a : Word) (v : Byte) : BusStep s (mbcWrite s a v) :=
  ⟨rfl, rfl, rfl, rfl, rfl, rfl, rfl, rfl, rfl, rfl⟩

/-- A read has no effect, or advances the RTC (R176), or reports an access outside a populated region (R73). -/
theorem busRead_cases (s : State) (a : Word) :
    (busRead s a).2 = s ∨ (busRead s a).2 = rtcUpdate s ∨ (busRead s a).2 = report s (.outOfRange a) := by
  simp only [busRead]; split <;> simp

theorem busStep_busRead (s : State) (a : Word) : BusStep s (busRead s a).2 := by
  rcases busRead_cases s a with h | h | h <;> rw [h]
  exacts [.refl s, busStep_rtcUpdate s, busStep_report s _]

@[simp] theorem busRead_regs (s : State) (a : Word) : (busRead s a).2.regs = s.regs := (busStep_busRead s a).regs
@[simp] theorem busRead_ime (s : State) (a : Word) : (busRead s a).2.ime = s.ime := (busStep_busRead s a).ime
@[simp] theorem busRead_eiDelay (s : State) (a : Word) : (busRead s a).2.eiDelay = s.eiDelay := (busStep_busRead s a).eiDelay
@[simp] theorem busRead_mode (s : State) (a : Word) : (busRead s a).2.mode = s.mode := (busStep_busRead s a).mode
@[simp] theorem busRead_clock (s : State) (a : Word) : (busRead s a).2.clock = s.clock := (busStep_busRead s a).clock
@[simp] theorem busRead_doubleSpeed (s : State) (a : Word) : (busRead s a).2.doubleSpeed = s.doubleSpeed :=
  (busStep_busRead s a).doubleSpeed
@[simp] theorem busRead_cart (s : State) (a : Word) : (busRead s a).2.cart = s.cart := (busStep_busRead s a).cart
@[simp] theorem busRead_joypad (s : State) (a : Word) : (busRead s a).2.joypad = s.joypad := (busStep_busRead s a).joypad
@[simp] theorem busRead_resets (s : State) (a : Word) : (busRead s a).2.resets = s.resets := (busStep_busRead s a).resets
@[simp] theorem busRead_mem (s : State) (a : Word) : (busRead s a).2.mem = s.mem := by
  rcases busRead_cases s a with h | h | h <;> rw [h] <;> rfl
@[simp] theorem busRead_mbc (s : State) (a : Word) : (busRead s a).2.mbc = s.mbc := by
  rcases busRead_cases s a with h | h | h <;> rw [h] <;> rfl
@[simp] theorem busRead_vramBank (s : State) (a : Word) : (busRead s a).2.vramBank = s.vramBank := by
  rcases busRead_cases s a with h | h | h <;> rw [h] <;> rfl
@[simp] theorem busRead_wramBank (s : State) (a : Word) : (busRead s a).2.wramBank = s.wramBank := by
  rcases busRead_cases s a with h | h | h <;> rw [h] <;> rfl
@[simp] theorem busRead_hdmaActive (s : State) (a : Word) : (busRead s a).2.hdmaActive = s.hdmaActive := by
  rcases busRead_cases s a with h | h | h <;> rw [h] <;> rfl

@[simp] theorem readCell_busRead (s : State) (a : Word) (r : Region) (k : Nat) :
    readCell (busRead s a).2 r k = readCell s r k := readCell_congr (by simp) (by simp) r k
@[simp] theorem readIo_busRead (s : State) (a : Word) (o : Nat) : readIo (busRead s a).2 o = readIo s o :=
  readCell_busRead s a .io o

theorem busStep_oamCopy (src : Word) (n i : Nat) (s : State) : BusStep s (oamCopy src n i s) := by
  induction n generalizing i s with
  | zero => exact .refl s
  | succ n ih =>
    exact ((busStep_busRead s _).trans (busStep_writeCell _ i _ (by decide))).trans (ih (i + 1) _)

theorem busStep_oamDma (s : State) (v : Byte) : BusStep s (oamDma s v) := busStep_oamCopy _ _ _ s

theorem busStep_vramCopy (src dst : Word) (n i : Nat) (s : State) : BusStep s (vramCopy src dst n i s) := by
  induction n generalizing i s with
  | zero => exact .refl s
  | succ n ih =>
    exact ((busStep_busRead s _).trans (busStep_writeCell _ _ _ (by decide))).trans (ih (i + 1) _)

theorem busStep_hdmaBlock (s : State) : BusStep s (hdmaBlock s) :=
  ((((busStep_vramCopy _ _ 16 0 s).trans (busStep_writeIo _ _ _)).trans (busStep_writeIo _ _ _)).trans
    (busStep_writeIo _ _ _)).trans (busStep_writeIo _ _ _)

theorem busStep_hdmaBlocks (n : Nat) (s : State) : BusStep s (hdmaBlocks n s) := by
  induction n generalizing s with
  | zero => exact .refl s
  | succ n ih => exact (busStep_hdmaBlock s).trans (ih _)

theorem busStep_hdmaActive (s : State) (b : Bool) : BusStep s { s with hdmaActive := b } :=
  ⟨rfl, rfl, rfl, rfl, rfl, rfl, rfl, rfl, rfl, rfl⟩

theorem busStep_hdmaControl (s : State) (v : Byte) : BusStep s (hdmaControl s v) := by
  simp only [hdmaControl]
  split
  · exact (busStep_hdmaActive s false).trans (busStep_writeIo _ _ _)
  · split
    · exact (busStep_hdmaActive s true).trans (busStep_writeIo _ _ _)
    · exact (busStep_hdmaBlocks _ s).trans (busStep_writeIo _ _ _)

theorem busStep_paletteWrite (s : State) {r : Region} (o : Nat) (v : Byte) (h : r ≠ .rom) :
    BusStep s (paletteWrite s r o v) :=
  (busStep_writeCell s _ v h).trans (busStep_writeIo _ _ _)

theorem busStep_cgbIoWrite (s : State) (o v : Byte) : BusStep s (cgbIoWrite s o v) := by
  unfold cgbIoWrite
  split
  · exact busStep_writeIo _ _ _
  · exact (busStep_writeIo s 0x4F v).trans ⟨rfl, rfl, rfl, rfl, rfl, rfl, rfl, rfl, rfl, rfl⟩
  · exact busStep_hdmaControl s v
  · exact busStep_paletteWrite s _ v (by decide)
  · exact busStep_paletteWrite s _ v (by decide)
  · exact (busStep_writeIo s 0x70 v).trans ⟨rfl, rfl, rfl, rfl, rfl, rfl, rfl, rfl, rfl, rfl⟩
  · exact busStep_writeIo _ _ _

theorem busStep_ioWrite (s : State) (o v : Byte) : BusStep s (ioWrite s o v) := by
  unfold ioWrite
  split
  · exact busStep_writeIo _ _ _
  · exact busStep_writeIo _ _ _
  · exact .refl s
  · exact (busStep_writeIo s 0x46 v).trans (busStep_oamDma _ v)
  · split
    · exact busStep_cgbIoWrite s o v
    · exact busStep_writeIo _ _ _

/-- From 0x8000 on, an address resolves to no cell of the ROM image. -/
theorem route_ne_rom {s : State} {a : Word} (ha : 0x8000 ≤ a.toNat) {r : Region} {k : Nat}
    (h : route s a = .cell r k) : r ≠ .rom := by
  rintro rfl
  simp only [route, show ¬ a.toNat < 0x4000 by omega, show ¬ a.toNat < 0x8000 by omega, if_false] at h
  split at h
  · simp at h
  · split at h
    · simp only [cartRamPlace, cramCell] at h
      repeat' split at h
      all_goals simp at h
    · simp only [wramPlace] at h
      repeat' split at h
      all_goals simp at h

/-- R65: a write below 0x8000 is a mapper command. -/
theorem busWrite_command {s : State} {a : Word} (v : Byte) (h : a.toNat < 0x8000) : busWrite s a v = mbcWrite s a v := by
  simp [busWrite, h]

/-- From 0x8000 on, a write acts on what the address resolves to. -/
theorem busWrite_place {s : State} {a : Word} (v : Byte) (h : 0x8000 ≤ a.toNat) :
    busWrite s a v = placeWrite s a v (route s a) := by
  simp [busWrite, show ¬ a.toNat < 0x8000 by omega]

/-- What no write changes. -/
theorem busStep_busWrite (s : State) (a : Word) (v : Byte) : BusStep s (busWrite s a v) := by
  by_cases h : a.toNat < 0x8000
  · rw [busWrite_command v h]; exact busStep_mbcWrite s a v
  · rw [busWrite_place v (by omega)]
    cases hp : route s a with
    | cell r k => exact busStep_writeCell s k v (route_ne_rom (by omega) hp)
    | nibble k => exact busStep_writeCell s k _ (by decide)
    | rtc i => exact (busStep_rtcUpdate s).trans ⟨rfl, rfl, rfl, rfl, rfl, rfl, rfl, rfl, rfl, rfl⟩
    | disabled => exact .refl s
    | outOfRange => exact busStep_report s _
    | unmapped => exact .refl s
    | io o => exact busStep_ioWrite s o v

@[simp] theorem busWrite_regs (s : State) (a : Word) (v : Byte) : (busWrite s a v).regs = s.regs := (busStep_busWrite s a v).regs
@[simp] theorem busWrite_ime (s : State) (a : Word) (v : Byte) : (busWrite s a v).ime = s.ime := (busStep_busWrite s a v).ime
@[simp] theorem busWrite_eiDelay (s : State) (a : Word) (v : Byte) : (busWrite s a v).eiDelay = s.eiDelay :=
  (busStep_busWrite s a v).eiDelay
@[simp] theorem busWrite_mode (s : State) (a : Word) (v : Byte) : (busWrite s a v).mode = s.mode := (busStep_busWrite s a v).mode
@[simp] theorem busWrite_clock (s : State) (a : Word) (v : Byte) : (busWrite s a v).clock = s.clock :=
  (busStep_busWrite s a v).clock
@[simp] theorem busWrite_doubleSpeed (s : State) (a : Word) (v : Byte) : (busWrite s a v).doubleSpeed = s.doubleSpeed :=
  (busStep_busWrite s a v).doubleSpeed
@[simp] theorem busWrite_cart (s : State) (a : Word) (v : Byte) : (busWrite s a v).cart = s.cart := (busStep_busWrite s a v).cart
@[simp] theorem busWrite_joypad (s : State) (a : Word) (v : Byte) : (busWrite s a v).joypad = s.joypad :=
  (busStep_busWrite s a v).joypad
@[simp] theorem busWrite_resets (s : State) (a : Word) (v : Byte) : (busWrite s a v).resets = s.resets :=
  (busStep_busWrite s a v).resets
@[simp] theorem busWrite_rom (s : State) (a : Word) (v : Byte) : (busWrite s a v).mem.rom = s.mem.rom :=
  (busStep_busWrite s a v).rom

/-! The Timing Driver. -/

theorem busStep_requestInterrupt (s : State) (b : Byte) : BusStep s (requestInterrupt s b) := busStep_writeIo _ _ _

theorem busStep_divTick (s : State) : BusStep s (divTick s) := by
  unfold divTick; split
  exacts [busStep_writeIo _ _ _, .refl s]

theorem busStep_timaTick (s : State) : BusStep s (timaTick s) := by
  simp only [timaTick, timaOverflow]
  repeat' split
  · exact (busStep_writeIo s _ _).trans (busStep_requestInterrupt _ _)
  · exact busStep_writeIo _ _ _
  · exact busStep_writeIo _ _ _
  · exact .refl s

theorem busStep_lineRequests (s : State) : BusStep s (lineRequests s) := by
  simp only [lineRequests]
  repeat' split
  · exact (busStep_requestInterrupt s _).trans (busStep_requestInterrupt _ _)
  · exact busStep_requestInterrupt s _
  · exact .refl s

theorem notifyLines_mem (n l : Nat) (s : State) : (notifyLines n l s).mem = s.mem := by
  induction n generalizing l s with
  | zero => rfl
  | succ n ih => exact ih (l + 1) _

theorem busStep_notifyLines (n l : Nat) (s : State) : BusStep s (notifyLines n l s) := by
  induction n generalizing l s with
  | zero => exact .refl s
  | succ n ih => exact (busStep_report s _).trans (ih _ _)

theorem busStep_lineNotifications (s : State) : BusStep s (lineNotifications s) := by
  simp only [lineNotifications]
  repeat' split
  exacts [busStep_notifyLines _ _ s, busStep_report s _, .refl s]

theorem busStep_hdmaService (s : State) : BusStep s (hdmaService s) := by
  simp only [hdmaService]
  repeat' split
  · exact ((busStep_hdmaBlock s).trans (busStep_hdmaActive _ false)).trans (busStep_writeIo _ _ _)
  · exact (busStep_hdmaBlock s).trans (busStep_writeIo _ _ _)
  · exact .refl s

theorem busStep_scanlineTick (s : State) : BusStep s (scanlineTick s) := by
  unfold scanlineTick; split
  · exact (((busStep_writeIo s 0x44 _).trans (busStep_lineRequests _)).trans (busStep_lineNotifications _)).trans
      (busStep_hdmaService _)
  · exact .refl s

/-- What no tick of the Timing Driver changes. -/
theorem busStep_timingTick (s : State) : BusStep s (timingTick s) :=
  ((busStep_divTick s).trans (busStep_timaTick _)).trans (busStep_scanlineTick _)

@[simp] theorem timingTick_regs (s : State) : (timingTick s).regs = s.regs := (busStep_timingTick s).regs
@[simp] theorem timingTick_ime (s : State) : (timingTick s).ime = s.ime := (busStep_timingTick s).ime
@[simp] theorem timingTick_eiDelay (s : State) : (timingTick s).eiDelay = s.eiDelay := (busStep_timingTick s).eiDelay
@[simp] theorem timingTick_mode (s : State) : (timingTick s).mode = s.mode := (busStep_timingTick s).mode
@[simp] theorem timingTick_clock (s : State) : (timingTick s).clock = s.clock := (busStep_timingTick s).clock
@[simp] theorem timingTick_doubleSpeed (s : State) : (timingTick s).doubleSpeed = s.doubleSpeed :=
  (busStep_timingTick s).doubleSpeed
@[simp] theorem timingTick_cart (s : State) : (timingTick s).cart = s.cart := (busStep_timingTick s).cart
@[simp] theorem timingTick_joypad (s : State) : (timingTick s).joypad = s.joypad := (busStep_timingTick s).joypad
@[simp] theorem timingTick_resets (s : State) : (timingTick s).resets = s.resets := (busStep_timingTick s).resets
@[simp] theorem timingTick_rom (s : State) : (timingTick s).mem.rom = s.mem.rom := (busStep_timingTick s).rom

/-! I/O cells under the copies. -/

@[simp] theorem readIo_oamCopy (src : Word) (n i : Nat) (s : State) (o : Nat) :
    readIo (oamCopy src n i s) o = readIo s o := by
  induction n generalizing i s with
  | zero => rfl
  | succ n ih => simp [oamCopy, ih, readIo_writeCell]

@[simp] theorem readIo_vramCopy (src dst : Word) (n i : Nat) (s : State) (o : Nat) :
    readIo (vramCopy src dst n i s) o = readIo s o := by
  induction n generalizing i s with
  | zero => rfl
  | succ n ih => simp [vramCopy, ih, readIo_writeCell]

/-- An HDMA block changes no I/O cell but the address registers 0x51 to 0x54. -/
theorem readIo_hdmaBlock (s : State) (o : Nat) (h : o < 0x51 ∨ 0x54 < o) : readIo (hdmaBlock s) o = readIo s o := by
  have hc := readIo_vramCopy (hdmaSrc s) (hdmaDst s) 16 0 s o
  unfold hdmaBlock hdmaWriteBack
  generalize vramCopy (hdmaSrc s) (hdmaDst s) 16 0 s = t at hc
  rw [readIo_writeIo, if_neg (by omega), readIo_writeIo, if_neg (by omega), readIo_writeIo, if_neg (by omega),
    readIo_writeIo, if_neg (by omega), hc]

theorem readIo_hdmaBlocks (n : Nat) (s : State) (o : Nat) (h : o < 0x51 ∨ 0x54 < o) :
    readIo (hdmaBlocks n s) o = readIo s o := by
  induction n generalizing s with
  | zero => rfl
  | succ n ih => rw [hdmaBlocks, ih, readIo_hdmaBlock s o h]

/-- The scanline tick's HDMA service changes no I/O cell but 0x51 to 0x55. -/
theorem readIo_hdmaService (s : State) (o : Nat) (h : o < 0x51 ∨ 0x55 < o) : readIo (hdmaService s) o = readIo s o := by
  have hb := readIo_hdmaBlock s o (by omega)
  unfold hdmaService
  generalize hdmaBlock s = t at hb ⊢
  dsimp only
  split
  · split
    · rw [readIo_writeIo, if_neg (by omega), ← hb]; exact readIo_congr rfl rfl o
    · rw [readIo_writeIo, if_neg (by omega), hb]
  · rfl

end Sys2Proof.Machine
end

