-- ==== Sys2Proof/Laws/Flags.lean ====
section
/-! SUPPORT. Single bits and the flag bits of F: what a bit or flag write changes and what it keeps. -/

namespace Sys2Proof.Machine

theorem bitOf_putBit (v : Byte) (i j : Nat) (b : Bool) (hj : j < 8) :
    bitOf (putBit v i b) j = if j = i then b else bitOf v j := by
  unfold putBit bitOf
  by_cases h : j = i
  · subst h
    cases b <;> simp [hj]
  · cases b
    · simp only [Bool.false_eq_true, if_false, if_neg h, BitVec.getLsbD_and, BitVec.getLsbD_not, BitVec.getLsbD_shiftLeft,
        BitVec.getLsbD_one]
      have : ¬ (j - i = 0 ∧ ¬ j < i) := by omega
      cases hv : v.getLsbD j <;> simp [hj]; omega
    · simp only [if_true, if_neg h, BitVec.getLsbD_or, BitVec.getLsbD_shiftLeft, BitVec.getLsbD_one]
      cases hv : v.getLsbD j <;> simp [hj]; omega

theorem byte_ext {x y : Byte} (h : ∀ i, i < 8 → bitOf x i = bitOf y i) : x = y :=
  BitVec.eq_of_getLsbD_eq h

theorem bitOf_putFlag (f : Byte) (i j : Nat) (o : Option Bool) (hj : j < 8) :
    bitOf (putFlag f i o) j = if j = i then o.getD (bitOf f j) else bitOf f j := by
  cases o with
  | none => simp [putFlag]
  | some b => simp [putFlag, bitOf_putBit f i j b hj]

/-- R250: each flag bit becomes what was produced, or stays. -/
theorem bitOf_writeFlags (f : Byte) (o : FlagOut) (j : Nat) (hj : j < 8) :
    bitOf (writeFlags f o) j =
      if j = 7 then o.z.getD (bitOf f 7) else if j = 6 then o.n.getD (bitOf f 6) else
        if j = 5 then o.h.getD (bitOf f 5) else if j = 4 then o.c.getD (bitOf f 4) else bitOf f j := by
  simp only [writeFlags, bitOf_putFlag _ _ _ _ hj]
  have : j = 0 ∨ j = 1 ∨ j = 2 ∨ j = 3 ∨ j = 4 ∨ j = 5 ∨ j = 6 ∨ j = 7 := by omega
  rcases this with rfl | rfl | rfl | rfl | rfl | rfl | rfl | rfl <;> simp

@[simp] theorem zFlag_writeFlags (f : Byte) (o : FlagOut) : zFlag (writeFlags f o) = o.z.getD (zFlag f) :=
  bitOf_writeFlags f o 7 (by decide)
@[simp] theorem nFlag_writeFlags (f : Byte) (o : FlagOut) : nFlag (writeFlags f o) = o.n.getD (nFlag f) :=
  bitOf_writeFlags f o 6 (by decide)
@[simp] theorem hFlag_writeFlags (f : Byte) (o : FlagOut) : hFlag (writeFlags f o) = o.h.getD (hFlag f) :=
  bitOf_writeFlags f o 5 (by decide)
@[simp] theorem cFlag_writeFlags (f : Byte) (o : FlagOut) : cFlag (writeFlags f o) = o.c.getD (cFlag f) :=
  bitOf_writeFlags f o 4 (by decide)

/-- R28: a flag write leaves the low nibble of F alone. -/
theorem writeFlags_low (f : Byte) (o : FlagOut) : writeFlags f o &&& 0x0F = f &&& 0x0F := by
  apply byte_ext
  intro i hi
  have hw := bitOf_writeFlags f o i hi
  unfold bitOf at hw ⊢
  rw [BitVec.getLsbD_and, BitVec.getLsbD_and, hw]
  have : i = 0 ∨ i = 1 ∨ i = 2 ∨ i = 3 ∨ i = 4 ∨ i = 5 ∨ i = 6 ∨ i = 7 := by omega
  rcases this with rfl | rfl | rfl | rfl | rfl | rfl | rfl | rfl <;> simp

end Sys2Proof.Machine
end

