-- ==== Sys2Proof/Laws/Invariant.lean ====
section
/-! SUPPORT. The part of the invariant of Safety.lean that bus accesses and ticks could touch, and that each shared
operation keeps it. -/

namespace Sys2Proof.Machine

/-- `State.Inv` without the registers and the EI slot. -/
structure State.MemInv (s : State) : Prop where
  line : (readIo s 0x44).toNat ≤ 153
  banks : s.banksLegal
  keys : readIo s 0x00 &&& 0xCF = 0
  noCgb : s.cart.cgb = false → s.noCgbState
  cgb : s.cart.cgb = true → s.cgbCellsAgree
  canonical : s.mem.wf = true
  bounded : Mem.inBounds s.cart s.mem

theorem State.Inv.memInv {s : State} (h : s.Inv) : s.MemInv :=
  ⟨h.line, h.banks, h.keys, h.noCgb, h.cgb, h.canonical, h.bounded⟩

theorem State.MemInv.inv {s : State} (h : s.MemInv) (hf : s.regs.f &&& 0x0F = 0) (he : s.eiDelay ≤ 2) : s.Inv :=
  ⟨hf, he, h.line, h.banks, h.keys, h.noCgb, h.cgb, h.canonical, h.bounded⟩

/-- `MemInv` reads the memories, the cartridge, the mapper fields and the CGB fields, and nothing else. -/
theorem State.MemInv.of_eq {s t : State} (h : s.MemInv) (hm : t.mem = s.mem) (hr : t.resets = s.resets)
    (hc : t.cart = s.cart) (hb : t.mbc = s.mbc) (hd : t.doubleSpeed = s.doubleSpeed) (hv : t.vramBank = s.vramBank)
    (hw : t.wramBank = s.wramBank) (ha : t.hdmaActive = s.hdmaActive) : t.MemInv := by
  refine ⟨?_, ?_, ?_, ?_, ?_, ?_, ?_⟩
  · rw [readIo_congr hm hr]; exact h.line
  · simpa [State.banksLegal, hc, hb] using h.banks
  · rw [readIo_congr hm hr]; exact h.keys
  · simpa [State.noCgbState, hc, hd, hv, hw, ha] using h.noCgb
  · simpa [State.cgbCellsAgree, readIo_congr hm hr, hc, hd, hv, hw] using h.cgb
  · rw [hm]; exact h.canonical
  · rw [hm, hc]; exact h.bounded

theorem State.MemInv.report {s : State} (h : s.MemInv) (e : Event) : (report s e).MemInv :=
  h.of_eq rfl rfl rfl rfl rfl rfl rfl rfl

theorem State.MemInv.rtcUpdate {s : State} (h : s.MemInv) : (rtcUpdate s).MemInv :=
  h.of_eq rfl rfl rfl rfl rfl rfl rfl rfl

theorem State.MemInv.busRead {s : State} (h : s.MemInv) (a : Word) : (busRead s a).2.MemInv := by
  rcases busRead_cases s a with g | g | g <;> rw [g]
  exacts [h, h.rtcUpdate, h.report _]

/-- A store into a memory other than the I/O file, within its size. -/
theorem State.MemInv.writeCell {s : State} (h : s.MemInv) {r : Region} {k : Nat} (b : Byte) (hr : r ≠ .io)
    (hk : k < r.size s.cart) : (writeCell s r k b).MemInv := by
  refine ⟨?_, h.banks, ?_, h.noCgb, ?_, writeCell_wf r k b h.canonical, writeCell_bound b h.bounded hk⟩
  · rw [readIo_writeCell s r k _ b hr]; exact h.line
  · rw [readIo_writeCell s r k _ b hr]; exact h.keys
  · intro hc
    obtain ⟨g1, g2, g3⟩ := h.cgb hc
    unfold State.cgbCellsAgree
    rw [readIo_writeCell s r k _ b hr, readIo_writeCell s r k _ b hr, readIo_writeCell s r k _ b hr]
    exact ⟨g1, g2, g3⟩

/-- A store into an I/O cell that keeps what the invariant says of that cell. -/
theorem State.MemInv.writeIo {s : State} (h : s.MemInv) {o : Nat} {v : Byte} (ho : o < 256)
    (h0 : o = 0x00 → v &&& 0xCF = 0) (h44 : o = 0x44 → v.toNat ≤ 153)
    (hx : s.cart.cgb = true → o ≠ 0x4D ∧ o ≠ 0x4F ∧ o ≠ 0x70) : (writeIo s o v).MemInv := by
  refine ⟨?_, h.banks, ?_, h.noCgb, ?_, writeCell_wf .io o v h.canonical, writeCell_bound v h.bounded ho⟩
  · rw [readIo_writeIo]
    split
    · rename_i g; exact h44 g.symm
    · exact h.line
  · rw [readIo_writeIo]
    split
    · rename_i g; exact h0 g.symm
    · exact h.keys
  · intro hc
    obtain ⟨h1, h2, h3⟩ := hx hc
    obtain ⟨g1, g2, g3⟩ := h.cgb hc
    unfold State.cgbCellsAgree
    rw [readIo_writeIo, readIo_writeIo, readIo_writeIo, if_neg (Ne.symm h1), if_neg (Ne.symm h2), if_neg (Ne.symm h3)]
    exact ⟨g1, g2, g3⟩

/-- A store into one of the I/O cells of which the invariant says nothing. -/
theorem State.MemInv.writeIo_plain {s : State} (h : s.MemInv) {o : Nat} (v : Byte) (ho : o < 256) (h0 : o ≠ 0x00)
    (h44 : o ≠ 0x44) (h4D : o ≠ 0x4D) (h4F : o ≠ 0x4F) (h70 : o ≠ 0x70) : (Machine.writeIo s o v).MemInv :=
  h.writeIo ho (fun g => absurd g h0) (fun g => absurd g h44) (fun _ => ⟨h4D, h4F, h70⟩)

theorem State.MemInv.setHdma {s : State} (h : s.MemInv) (hc : s.cart.cgb = true) (b : Bool) :
    State.MemInv { s with hdmaActive := b } :=
  ⟨h.line, h.banks, h.keys, fun g => absurd (hc.symm.trans g) (by decide), h.cgb, h.canonical, h.bounded⟩

/-! Mapper commands. -/

theorem zeroToOne_ne_zero (n : BitVec 9) : zeroToOne n ≠ 0 := by
  unfold zeroToOne; split
  · decide
  · assumption

theorem zeroToOne_lt {n : BitVec 9} {k : Nat} (hk : 1 < k) (h : n.toNat < k) : (zeroToOne n).toNat < k := by
  unfold zeroToOne; split
  · exact hk
  · exact h

/-- A mapper command leaves a bank number that the mapper's rules allow. -/
theorem banksLegal_mbcWrite {s : State} (h : s.banksLegal) (a : Word) (v : Byte) : (mbcWrite s a v).banksLegal := by
  have hand : ∀ m : Byte, (v &&& m).toNat ≤ m.toNat := by
    intro m
    rw [BitVec.toNat_and]
    exact Nat.and_le_right
  have set9 : ∀ x : Byte, (x.setWidth 9).toNat = x.toNat := by intro x; simp; omega
  have set4 : ∀ x : Byte, x.toNat < 16 → (x.setWidth 4).toNat = x.toNat := by
    intro x hx; simp [BitVec.toNat_setWidth]; omega
  simp only [State.banksLegal, mbcWrite, mbcCommand] at h ⊢
  cases hm : s.cart.mapper <;> simp only [hm] at h ⊢
  · exact h
  · obtain ⟨h1, h2, h3⟩ := h
    simp only [mbc1Command]
    have e3 : (v &&& 0x03).toNat ≤ 3 := hand 0x03
    have e31 : (v &&& 0x1F).toNat ≤ 31 := hand 0x1F
    repeat' split
    · exact ⟨h1, h2, h3⟩
    · refine ⟨zeroToOne_ne_zero _, zeroToOne_lt (by decide) ?_, h3⟩
      rw [BitVec.toNat_or, set9]
      refine Nat.or_lt_two_pow (n := 7) ?_ (by omega)
      rw [BitVec.toNat_and]
      exact Nat.lt_of_le_of_lt Nat.and_le_right (by decide)
    · exact ⟨h1, h2, by rw [set4 _ (by omega)]; omega⟩
    · refine ⟨zeroToOne_ne_zero _, zeroToOne_lt (by decide) ?_, h3⟩
      rw [BitVec.toNat_or]
      refine Nat.or_lt_two_pow (n := 7) ?_ ?_
      · rw [BitVec.toNat_and]
        exact Nat.lt_of_le_of_lt Nat.and_le_right (by decide)
      · rw [BitVec.toNat_shiftLeft, set9, Nat.shiftLeft_eq]
        omega
    · exact ⟨h1, h2, h3⟩
  · obtain ⟨h1, h2, h3⟩ := h
    have e31 : (v &&& 0x1F).toNat ≤ 31 := hand 0x1F
    simp only [mbc2Command]
    repeat' split
    all_goals first
      | exact ⟨h1, h2, h3⟩
      | exact ⟨zeroToOne_ne_zero _, zeroToOne_lt (by decide) (by rw [set9]; omega), h3⟩
  · obtain ⟨h1, h2⟩ := h
    have e127 : (v &&& 0x7F).toNat ≤ 127 := hand 0x7F
    simp only [mbc3Command]
    repeat' split
    all_goals first
      | exact ⟨h1, h2⟩
      | exact ⟨zeroToOne_ne_zero _, zeroToOne_lt (by decide) (by rw [set9]; omega)⟩
  · have e7 : (v &&& 0x07).toNat ≤ 7 := hand 0x07
    simp only [mbc5Command]
    repeat' split
    all_goals first
      | exact h
      | (rw [set4 _ (by omega)]; omega)

theorem State.MemInv.mbcWrite {s : State} (h : s.MemInv) (a : Word) (v : Byte) : (mbcWrite s a v).MemInv :=
  ⟨h.line, banksLegal_mbcWrite h.banks a v, h.keys, h.noCgb, h.cgb, h.canonical, h.bounded⟩

/-! Bus accesses. -/

theorem vramCell_lt (s : State) {n : Nat} (h : n < 0x2000) : vramBankOf s * 0x2000 + n < Region.size s.cart .vram := by
  have := s.vramBank.isLt
  simp only [vramBankOf, Region.size]
  split <;> omega

theorem wramCell_lt (s : State) {n : Nat} (h : n < 0x1000) : wramBankOf s * 0x1000 + n < Region.size s.cart .wram := by
  have := s.wramBank.isLt
  simp only [wramBankOf, Region.size]
  split <;> omega

theorem cramCell_lt {s : State} {i k : Nat} {r : Region} (hm : s.cart.mapper ≠ .mbc2) (h : cramCell s i = .cell r k) :
    r = .cram ∧ k < r.size s.cart := by
  simp only [cramCell] at h
  split at h
  · obtain ⟨rfl, rfl⟩ := Place.cell.inj h
    exact ⟨rfl, by simpa [Region.size, hm] using ‹_›⟩
  · cases h

/-- From 0x8000 on, the byte cell an address resolves to lies within its memory, which is neither the ROM nor the I/O file. -/
theorem route_cell {s : State} {a : Word} (ha : 0x8000 ≤ a.toNat) {r : Region} {k : Nat} (h : route s a = .cell r k) :
    r ≠ .rom ∧ r ≠ .io ∧ k < r.size s.cart := by
  have hlt := a.isLt
  simp only [route, show ¬ a.toNat < 0x4000 by omega, show ¬ a.toNat < 0x8000 by omega, if_false] at h
  split at h
  · obtain ⟨rfl, rfl⟩ := Place.cell.inj h
    exact ⟨by decide, by decide, vramCell_lt s (by omega)⟩
  split at h
  · have key : r = .cram ∧ k < r.size s.cart := by
      simp only [cartRamPlace] at h
      cases hm : s.cart.mapper <;> simp only [hm] at h <;> repeat' split at h
      all_goals first
        | exact cramCell_lt (by rw [hm]; decide) h
        | cases h
    obtain ⟨rfl, hk⟩ := key
    exact ⟨by decide, by decide, hk⟩
  have wram : ∀ n, n < 0x2000 → wramPlace s n = .cell r k → r ≠ .rom ∧ r ≠ .io ∧ k < r.size s.cart := by
    intro n hn hw
    simp only [wramPlace] at hw
    split at hw
    · obtain ⟨rfl, rfl⟩ := Place.cell.inj hw
      refine ⟨by decide, by decide, ?_⟩
      simp only [Region.size]; split <;> omega
    · obtain ⟨rfl, rfl⟩ := Place.cell.inj hw
      exact ⟨by decide, by decide, wramCell_lt s (by omega)⟩
  split at h
  · exact wram _ (by omega) h
  split at h
  · exact wram _ (by omega) h
  split at h
  · obtain ⟨rfl, rfl⟩ := Place.cell.inj h
    exact ⟨by decide, by decide, show _ < 160 by omega⟩
  split at h <;> cases h

/-- A 4-bit cell is one of the 512 of an MBC2. -/
theorem route_nibble {s : State} {a : Word} {k : Nat} (h : route s a = .nibble k) : k < Region.size s.cart .cram := by
  have wram : ∀ n, wramPlace s n ≠ .nibble k := by intro n; simp only [wramPlace]; split <;> simp
  have cram : ∀ i, cramCell s i ≠ .nibble k := by intro i; simp only [cramCell]; split <;> simp
  simp only [route] at h
  split at h
  · cases h
  split at h
  · simp only [romWindow] at h; split at h <;> cases h
  split at h
  · cases h
  split at h
  · simp only [cartRamPlace] at h
    cases hm : s.cart.mapper <;> simp only [hm] at h <;> repeat' split at h
    all_goals first
      | exact absurd h (cram _)
      | exact Place.noConfusion h
      | skip
    obtain rfl := Place.nibble.inj h
    simp only [Region.size, hm, if_true]
    omega
  split at h
  · exact absurd h (wram _)
  split at h
  · exact absurd h (wram _)
  split at h
  · cases h
  split at h <;> cases h

theorem State.MemInv.oamCopy {s : State} (h : s.MemInv) (src : Word) {n i : Nat} (hn : i + n ≤ 160) :
    (oamCopy src n i s).MemInv := by
  induction n generalizing i s with
  | zero => exact h
  | succ n ih => exact ih ((h.busRead _).writeCell _ (by decide) (show i < 160 by omega)) (by omega)

/-- Where HDMA stores lies in Video RAM. -/
theorem vramDst_lt (dst : Word) (i : Nat) (h : dst.toNat + i < 0xA000) (h8 : 0x8000 ≤ dst.toNat) :
    (dst + BitVec.ofNat 16 i).toNat - 0x8000 < 0x2000 := by
  have : (dst + BitVec.ofNat 16 i).toNat = dst.toNat + i := by
    rw [BitVec.toNat_add, BitVec.toNat_ofNat]; omega
  omega

theorem State.MemInv.vramCopy {s : State} (h : s.MemInv) (src dst : Word) {n i : Nat} (h8 : 0x8000 ≤ dst.toNat)
    (hn : dst.toNat + i + n ≤ 0xA000) : (vramCopy src dst n i s).MemInv := by
  induction n generalizing i s with
  | zero => exact h
  | succ n ih =>
    exact ih ((h.busRead _).writeCell _ (by decide) (vramCell_lt _ (vramDst_lt dst i (by omega) h8))) (by omega)

/-- R123: the destination is at a multiple of 16 inside Video RAM. -/
theorem hdmaDst_range (s : State) : 0x8000 ≤ (hdmaDst s).toNat ∧ (hdmaDst s).toNat + 16 ≤ 0xA000 := by
  have key : ∀ x : Word, 0x8000 ≤ (0x8000 + (x &&& 0x1FF0) : Word).toNat ∧ (0x8000 + (x &&& 0x1FF0) : Word).toNat + 16 ≤ 0xA000 := by
    intro x
    have h : (x &&& 0x1FF0 : Word).toNat ≤ 0x1FF0 := by
      rw [BitVec.toNat_and]; exact Nat.and_le_right
    rw [BitVec.toNat_add]
    have : (0x8000 : Word).toNat = 0x8000 := rfl
    omega
  exact key _

theorem State.MemInv.hdmaBlock {s : State} (h : s.MemInv) : (hdmaBlock s).MemInv := by
  have hr := hdmaDst_range s
  have hc := h.vramCopy (hdmaSrc s) (hdmaDst s) (n := 16) (i := 0) hr.1 (by omega)
  unfold Machine.hdmaBlock hdmaWriteBack
  generalize Machine.vramCopy (hdmaSrc s) (hdmaDst s) 16 0 s = t at hc
  iterate 3 refine State.MemInv.writeIo_plain ?_ _ (by decide) (by decide) (by decide) (by decide) (by decide) (by decide)
  exact hc.writeIo_plain _ (by decide) (by decide) (by decide) (by decide) (by decide) (by decide)

theorem State.MemInv.hdmaBlocks {s : State} (h : s.MemInv) (n : Nat) : (hdmaBlocks n s).MemInv := by
  induction n generalizing s with
  | zero => exact h
  | succ n ih => exact ih h.hdmaBlock

theorem State.MemInv.hdmaControl {s : State} (h : s.MemInv) (hc : s.cart.cgb = true) (v : Byte) :
    (hdmaControl s v).MemInv := by
  have plain : ∀ {t : State} (w : Byte), t.MemInv → (Machine.writeIo t 0x55 w).MemInv := fun w ht =>
    ht.writeIo_plain w (by decide) (by decide) (by decide) (by decide) (by decide) (by decide)
  unfold Machine.hdmaControl
  split
  · exact plain _ (h.setHdma hc false)
  split
  · exact plain _ (h.setHdma hc true)
  · exact plain _ (h.hdmaBlocks _)

theorem State.MemInv.paletteWrite {s : State} (h : s.MemInv) {r : Region} {o : Nat} (v : Byte)
    (hr : r = .bgPal ∧ o = 0x68 ∨ r = .objPal ∧ o = 0x6A) : (paletteWrite s r o v).MemInv := by
  unfold Machine.paletteWrite
  rcases hr with ⟨rfl, rfl⟩ | ⟨rfl, rfl⟩
  · exact (h.writeCell v (by decide) (show _ % 64 < 64 from Nat.mod_lt _ (by decide))).writeIo_plain _ (by decide) (by decide) (by decide)
      (by decide) (by decide) (by decide)
  · exact (h.writeCell v (by decide) (show _ % 64 < 64 from Nat.mod_lt _ (by decide))).writeIo_plain _ (by decide) (by decide) (by decide)
      (by decide) (by decide) (by decide)

/-- A store into one CGB cell, together with the CGB state that goes with it. -/
theorem State.MemInv.of_cgb {s t : State} (h : s.MemInv) (hc : s.cart.cgb = true) {o : Nat} {v : Byte} (ho : o < 256)
    (h0 : o ≠ 0x00) (h44 : o ≠ 0x44) (hm : t.mem = (Machine.writeIo s o v).mem) (hr : t.resets = s.resets)
    (hk : t.cart = s.cart) (hb : t.mbc = s.mbc)
    (hv : t.vramBank = (if 0x4F = o then v else readIo s 0x4F).setWidth 1)
    (hw : t.wramBank = if (if 0x70 = o then v else readIo s 0x70) &&& 0x07 = 0 then 1
      else (if 0x70 = o then v else readIo s 0x70).setWidth 3)
    (hd : (if 0x4D = o then v else readIo s 0x4D) &&& 0xFE = if t.doubleSpeed then 0x80 else 0x00) : t.MemInv := by
  have hio : ∀ j, readIo t j = if j = o then v else readIo s j := fun j =>
    (readIo_congr hm (hr : t.resets = (Machine.writeIo s o v).resets) j).trans (readIo_writeIo s o j v)
  refine ⟨?_, ?_, ?_, ?_, fun _ => ⟨?_, ?_, ?_⟩, ?_, ?_⟩
  · rw [hio, if_neg (Ne.symm h44)]; exact h.line
  · simpa [State.banksLegal, hk, hb] using h.banks
  · rw [hio, if_neg (Ne.symm h0)]; exact h.keys
  · rw [hk, hc]; intro g; cases g
  · rw [hio]; exact hv
  · rw [hio]; exact hw
  · rw [hio]; exact hd
  · rw [hm]; exact writeCell_wf .io o v h.canonical
  · rw [hm, hk]; exact writeCell_bound v h.bounded ho

/-- R122: a write of KEY1 keeps bit 7 and clears bits 6 to 1. -/
theorem key1_mask (x v : Byte) : ((x &&& 0x80) ||| (v &&& 0x01)) &&& 0xFE = (x &&& 0xFE) &&& 0x80 := by
  ext i hi
  have : i = 0 ∨ i = 1 ∨ i = 2 ∨ i = 3 ∨ i = 4 ∨ i = 5 ∨ i = 6 ∨ i = 7 := by omega
  rcases this with rfl | rfl | rfl | rfl | rfl | rfl | rfl | rfl <;> simp

theorem State.MemInv.cgbIoWrite {s : State} (h : s.MemInv) (hc : s.cart.cgb = true) {o : Byte} (v : Byte)
    (h0 : o.toNat ≠ 0x00) (h44 : o.toNat ≠ 0x44) : (cgbIoWrite s o v).MemInv := by
  obtain ⟨g1, g2, g3⟩ := h.cgb hc
  unfold Machine.cgbIoWrite
  split
  · refine h.of_cgb hc (by decide) (by decide) (by decide) rfl rfl rfl rfl g1 g2 ?_
    rw [if_pos rfl, key1_mask, g3, writeIo_doubleSpeed]
    cases s.doubleSpeed <;> rfl
  · exact h.of_cgb hc (o := 0x4F) (v := v) (by decide) (by decide) (by decide) rfl rfl rfl rfl rfl g2 g3
  · exact h.hdmaControl hc v
  · exact h.paletteWrite v (.inl ⟨rfl, rfl⟩)
  · exact h.paletteWrite v (.inr ⟨rfl, rfl⟩)
  · exact h.of_cgb hc (o := 0x70) (v := v) (by decide) (by decide) (by decide) rfl rfl rfl rfl g1 rfl g3
  · refine h.writeIo_plain v o.isLt h0 h44 ?_ ?_ ?_ <;> assumption

theorem State.MemInv.ioWrite {s : State} (h : s.MemInv) (o v : Byte) : (ioWrite s o v).MemInv := by
  have mask : (v &&& 0x30) &&& 0xCF = (0 : Byte) := by
    rw [BitVec.and_assoc]; exact BitVec.and_zero
  unfold Machine.ioWrite
  split
  · exact h.writeIo (by decide) (fun _ => mask) (fun g => absurd g (by decide)) (fun _ => by decide)
  · exact h.writeIo_plain _ (by decide) (by decide) (by decide) (by decide) (by decide) (by decide)
  · exact h
  · exact (h.writeIo_plain v (o := 0x46) (by decide) (by decide) (by decide) (by decide) (by decide) (by decide)).oamCopy _
      (by decide)
  · split
    · exact h.cgbIoWrite ‹_› v (by assumption) (by assumption)
    · exact h.writeIo o.isLt (fun g => absurd g (by assumption)) (fun g => absurd g (by assumption))
        (fun g => absurd g (by assumption))

theorem State.MemInv.busWrite {s : State} (h : s.MemInv) (a : Word) (v : Byte) : (busWrite s a v).MemInv := by
  by_cases ha : a.toNat < 0x8000
  · rw [busWrite_command v ha]; exact h.mbcWrite a v
  · rw [busWrite_place v (by omega)]
    cases hp : route s a with
    | cell r k =>
      obtain ⟨-, h2, h3⟩ := route_cell (by omega) hp
      exact h.writeCell v h2 h3
    | nibble k => exact h.writeCell _ (by decide) (route_nibble hp)
    | rtc i => exact h.of_eq rfl rfl rfl rfl rfl rfl rfl rfl
    | disabled => exact h
    | outOfRange => exact h.report _
    | unmapped => exact h
    | io o => exact h.ioWrite o v

/-! The Timing Driver. -/

theorem State.MemInv.requestInterrupt {s : State} (h : s.MemInv) (b : Byte) : (requestInterrupt s b).MemInv :=
  h.writeIo_plain _ (by decide) (by decide) (by decide) (by decide) (by decide) (by decide)

theorem State.MemInv.divTick {s : State} (h : s.MemInv) : (divTick s).MemInv := by
  unfold Machine.divTick; split
  · exact h.writeIo_plain _ (by decide) (by decide) (by decide) (by decide) (by decide) (by decide)
  · exact h

theorem State.MemInv.timaTick {s : State} (h : s.MemInv) : (timaTick s).MemInv := by
  have set : ∀ v, (Machine.writeIo s 0x05 v).MemInv := fun v =>
    h.writeIo_plain v (by decide) (by decide) (by decide) (by decide) (by decide) (by decide)
  simp only [Machine.timaTick, timaOverflow]
  repeat' split
  exacts [(set _).requestInterrupt _, set _, set _, h]

/-- R437: LY stays in 0 to 153. -/
theorem State.MemInv.lyAdvance {s : State} (h : s.MemInv) : (lyAdvance s).MemInv := by
  refine h.writeIo (by decide) (fun g => absurd g (by decide)) (fun _ => ?_) (fun _ => by decide)
  split
  · exact Nat.zero_le _
  · rw [BitVec.toNat_add]
    have : (1 : Byte).toNat = 1 := rfl
    omega

theorem State.MemInv.lineRequests {s : State} (h : s.MemInv) : (lineRequests s).MemInv := by
  simp only [Machine.lineRequests]
  repeat' split
  exacts [(h.requestInterrupt _).requestInterrupt _, h.requestInterrupt _, h]

theorem State.MemInv.notifyLines {s : State} (h : s.MemInv) (n l : Nat) : (notifyLines n l s).MemInv := by
  induction n generalizing l s with
  | zero => exact h
  | succ n ih => exact ih (h.report _) _

theorem State.MemInv.lineNotifications {s : State} (h : s.MemInv) : (lineNotifications s).MemInv := by
  simp only [Machine.lineNotifications]
  repeat' split
  exacts [h.notifyLines _ _, h.report _, h]

theorem State.MemInv.hdmaService {s : State} (h : s.MemInv) : (hdmaService s).MemInv := by
  have plain : ∀ {t : State} (w : Byte), t.MemInv → (Machine.writeIo t 0x55 w).MemInv := fun w ht =>
    ht.writeIo_plain w (by decide) (by decide) (by decide) (by decide) (by decide) (by decide)
  have hb := h.hdmaBlock
  have hc := (busStep_hdmaBlock s).cart
  unfold Machine.hdmaService
  generalize Machine.hdmaBlock s = t at hb hc
  split
  · rename_i g
    dsimp only
    split
    · exact plain _ (hb.setHdma (hc ▸ g.1) false)
    · exact plain _ hb
  · exact h

theorem State.MemInv.timingTick {s : State} (h : s.MemInv) : (timingTick s).MemInv := by
  unfold Machine.timingTick scanlineTick
  split
  · exact h.divTick.timaTick.lyAdvance.lineRequests.lineNotifications.hdmaService
  · exact h.divTick.timaTick

end Sys2Proof.Machine
end

