-- ==== Sys2Proof/Laws/Ops.lean ====
section
/-! SUPPORT. The stack, interrupt entry, the post-instruction step: what each changes and that each keeps the invariant. -/

namespace Sys2Proof.Machine

/-! The stack. -/

theorem push16_eq (s : State) (w : Word) :
    push16 s w =
      busWrite (setPair (busWrite (setPair s .sp (s.regs.sp - 1)) (s.regs.sp - 1) (hiByte w)) .sp (s.regs.sp - 1 - 1))
        (s.regs.sp - 1 - 1) (loByte w) := by
  simp [push16, Regs.set16]

@[simp] theorem push16_regs (s : State) (w : Word) : (push16 s w).regs = { s.regs with sp := s.regs.sp - 1 - 1 } := by
  simp [push16_eq, Regs.set16]
@[simp] theorem push16_ime (s : State) (w : Word) : (push16 s w).ime = s.ime := by simp [push16_eq]
@[simp] theorem push16_eiDelay (s : State) (w : Word) : (push16 s w).eiDelay = s.eiDelay := by simp [push16_eq]
@[simp] theorem push16_mode (s : State) (w : Word) : (push16 s w).mode = s.mode := by simp [push16_eq]
@[simp] theorem push16_clock (s : State) (w : Word) : (push16 s w).clock = s.clock := by simp [push16_eq]
@[simp] theorem push16_doubleSpeed (s : State) (w : Word) : (push16 s w).doubleSpeed = s.doubleSpeed := by simp [push16_eq]
@[simp] theorem push16_cart (s : State) (w : Word) : (push16 s w).cart = s.cart := by simp [push16_eq]
@[simp] theorem push16_joypad (s : State) (w : Word) : (push16 s w).joypad = s.joypad := by simp [push16_eq]
@[simp] theorem push16_resets (s : State) (w : Word) : (push16 s w).resets = s.resets := by simp [push16_eq]
@[simp] theorem push16_rom (s : State) (w : Word) : (push16 s w).mem.rom = s.mem.rom := by simp [push16_eq]

theorem State.MemInv.setPair {s : State} (h : s.MemInv) (p : Pair) (w : Word) : (setPair s p w).MemInv :=
  h.of_eq rfl rfl rfl rfl rfl rfl rfl rfl

theorem State.MemInv.setReg8 {s : State} (h : s.MemInv) (r : Reg8) (v : Byte) : (setReg8 s r v).MemInv :=
  h.of_eq rfl rfl rfl rfl rfl rfl rfl rfl

theorem State.MemInv.setFlags {s : State} (h : s.MemInv) (o : FlagOut) : (setFlags s o).MemInv :=
  h.of_eq rfl rfl rfl rfl rfl rfl rfl rfl

theorem State.MemInv.setPc {s : State} (h : s.MemInv) (w : Word) : (setPc s w).MemInv :=
  h.of_eq rfl rfl rfl rfl rfl rfl rfl rfl

theorem State.MemInv.push16 {s : State} (h : s.MemInv) (w : Word) : (push16 s w).MemInv := by
  rw [push16_eq]
  exact (((h.setPair _ _).busWrite _ _).setPair _ _).busWrite _ _

/-- R286: the word popped and the state after it. -/
theorem pop16_eq (s : State) :
    pop16 s =
      (joinBytes (busRead (setPair (busRead s s.regs.sp).2 .sp (s.regs.sp + 1)) (s.regs.sp + 1)).1 (busRead s s.regs.sp).1,
        setPair (busRead (setPair (busRead s s.regs.sp).2 .sp (s.regs.sp + 1)) (s.regs.sp + 1)).2 .sp (s.regs.sp + 1 + 1)) := by
  simp [pop16, Regs.set16]

@[simp] theorem pop16_regs (s : State) : (pop16 s).2.regs = { s.regs with sp := s.regs.sp + 1 + 1 } := by
  simp [pop16_eq, Regs.set16]
@[simp] theorem pop16_ime (s : State) : (pop16 s).2.ime = s.ime := by simp [pop16_eq]
@[simp] theorem pop16_eiDelay (s : State) : (pop16 s).2.eiDelay = s.eiDelay := by simp [pop16_eq]
@[simp] theorem pop16_mode (s : State) : (pop16 s).2.mode = s.mode := by simp [pop16_eq]
@[simp] theorem pop16_clock (s : State) : (pop16 s).2.clock = s.clock := by simp [pop16_eq]
@[simp] theorem pop16_doubleSpeed (s : State) : (pop16 s).2.doubleSpeed = s.doubleSpeed := by simp [pop16_eq]
@[simp] theorem pop16_cart (s : State) : (pop16 s).2.cart = s.cart := by simp [pop16_eq]
@[simp] theorem pop16_joypad (s : State) : (pop16 s).2.joypad = s.joypad := by simp [pop16_eq]
@[simp] theorem pop16_resets (s : State) : (pop16 s).2.resets = s.resets := by simp [pop16_eq]
@[simp] theorem pop16_mem (s : State) : (pop16 s).2.mem = s.mem := by simp [pop16_eq]

theorem State.MemInv.pop16 {s : State} (h : s.MemInv) : (pop16 s).2.MemInv := by
  rw [pop16_eq]
  exact (((h.busRead _).setPair _ _).busRead _).setPair _ _

/-! Interrupts. -/

@[simp] theorem interruptEntry_regs (s : State) (i : Nat) :
    (interruptEntry s i).regs = { s.regs with sp := s.regs.sp - 1 - 1, pc := vector i } := by
  simp [interruptEntry]
@[simp] theorem interruptEntry_ime (s : State) (i : Nat) : (interruptEntry s i).ime = false := by simp [interruptEntry]
@[simp] theorem interruptEntry_eiDelay (s : State) (i : Nat) : (interruptEntry s i).eiDelay = s.eiDelay := by
  simp [interruptEntry]
@[simp] theorem interruptEntry_mode (s : State) (i : Nat) : (interruptEntry s i).mode = s.mode := by simp [interruptEntry]
@[simp] theorem interruptEntry_clock (s : State) (i : Nat) : (interruptEntry s i).clock = s.clock := by
  simp [interruptEntry]
@[simp] theorem interruptEntry_cart (s : State) (i : Nat) : (interruptEntry s i).cart = s.cart := by simp [interruptEntry]

theorem State.MemInv.interruptEntry {s : State} (h : s.MemInv) (i : Nat) : (interruptEntry s i).MemInv := by
  have h1 : State.MemInv { Machine.push16 s s.regs.pc with ime := false } :=
    (h.push16 _).of_eq rfl rfl rfl rfl rfl rfl rfl rfl
  exact (h1.writeIo_plain _ (by decide) (by decide) (by decide) (by decide) (by decide) (by decide)).setPc _

/-- The check either does nothing or enters the least pending source (R414). -/
theorem interruptCheck_cases (s : State) :
    interruptCheck s = s ∨
      s.ime = true ∧ ∃ i, leastSource (pendingRequests s) = some i ∧ interruptCheck s = interruptEntry s i := by
  unfold interruptCheck
  split
  · exact .inr ⟨‹_›, _, ‹_›, rfl⟩
  · exact .inl rfl

theorem State.MemInv.interruptCheck {s : State} (h : s.MemInv) : (interruptCheck s).MemInv := by
  rcases interruptCheck_cases s with g | ⟨-, i, -, g⟩ <;> rw [g]
  exacts [h, h.interruptEntry i]

/-! The post-instruction step. -/

theorem eiSlot_cases (s : State) :
    eiSlot s = { s with eiDelay := s.eiDelay - 1, ime := if s.eiDelay = 1 then true else s.ime } := by
  obtain ⟨regs, ime, d, mode, clock, ds, cart, mbc, rtc, anchor, vb, wb, hd, mem, keys, draws, resets, out⟩ := s
  rcases d with _ | _ | n <;> simp [eiSlot]

theorem State.MemInv.eiSlot {s : State} (h : s.MemInv) : (eiSlot s).MemInv := by
  rw [eiSlot_cases]; exact h.of_eq rfl rfl rfl rfl rfl rfl rfl rfl

theorem State.MemInv.countAndTick {s : State} (h : s.MemInv) : (countAndTick s).MemInv :=
  State.MemInv.timingTick (h.of_eq (t := { s with clock := s.clock + 1 }) rfl rfl rfl rfl rfl rfl rfl rfl)

theorem State.MemInv.post {s : State} (h : s.MemInv) : (post s).MemInv := h.eiSlot.countAndTick.interruptCheck

@[simp] theorem countAndTick_regs (s : State) : (countAndTick s).regs = s.regs := by simp [countAndTick]
@[simp] theorem countAndTick_ime (s : State) : (countAndTick s).ime = s.ime := by simp [countAndTick]
@[simp] theorem countAndTick_eiDelay (s : State) : (countAndTick s).eiDelay = s.eiDelay := by simp [countAndTick]
@[simp] theorem countAndTick_mode (s : State) : (countAndTick s).mode = s.mode := by simp [countAndTick]
@[simp] theorem countAndTick_clock (s : State) : (countAndTick s).clock = s.clock + 1 := by simp [countAndTick]
@[simp] theorem countAndTick_cart (s : State) : (countAndTick s).cart = s.cart := by simp [countAndTick]
@[simp] theorem countAndTick_rom (s : State) : (countAndTick s).mem.rom = s.mem.rom := by simp [countAndTick]

/-- The post-instruction step writes no register but SP and PC (an interrupt entry). -/
theorem post_f (s : State) : (post s).regs.f = s.regs.f := by
  unfold post
  rcases interruptCheck_cases (countAndTick (eiSlot s)) with g | ⟨-, i, -, g⟩ <;> rw [g] <;> simp [eiSlot_cases]

theorem post_eiDelay (s : State) : (post s).eiDelay = s.eiDelay - 1 := by
  unfold post
  rcases interruptCheck_cases (countAndTick (eiSlot s)) with g | ⟨-, i, -, g⟩ <;> rw [g] <;> simp [eiSlot_cases]

theorem post_clock (s : State) : (post s).clock = s.clock + 1 := by
  unfold post
  rcases interruptCheck_cases (countAndTick (eiSlot s)) with g | ⟨-, i, -, g⟩ <;> rw [g] <;> simp [eiSlot_cases]

theorem post_mode (s : State) : (post s).mode = s.mode := by
  unfold post
  rcases interruptCheck_cases (countAndTick (eiSlot s)) with g | ⟨-, i, -, g⟩ <;> rw [g] <;> simp [eiSlot_cases]

end Sys2Proof.Machine
end

