-- ==== Sys2Proof/Laws/Words.lean ====
section
/-! SUPPORT. The mask that a write of AF puts on F (10_state.md R23). -/

namespace Sys2Proof.Machine

theorem and_F0_toNat (x : Byte) : (x &&& 0xF0 : Byte).toNat = x.toNat / 16 * 16 := by
  have key : (x &&& 0xF0 : Byte) = (x >>> 4) <<< 4 := by
    ext i hi
    have : i = 0 ∨ i = 1 ∨ i = 2 ∨ i = 3 ∨ i = 4 ∨ i = 5 ∨ i = 6 ∨ i = 7 := by omega
    rcases this with rfl | rfl | rfl | rfl | rfl | rfl | rfl | rfl <;> simp
  have := x.isLt
  rw [key, BitVec.toNat_shiftLeft, BitVec.toNat_ushiftRight, Nat.shiftLeft_eq, Nat.shiftRight_eq_div_pow]
  omega

theorem and_FFF0_toNat (x : Word) : (x &&& 0xFFF0 : Word).toNat = x.toNat / 16 * 16 := by
  have key : (x &&& 0xFFF0 : Word) = (x >>> 4) <<< 4 := by
    ext i hi
    have : i = 0 ∨ i = 1 ∨ i = 2 ∨ i = 3 ∨ i = 4 ∨ i = 5 ∨ i = 6 ∨ i = 7 ∨
        i = 8 ∨ i = 9 ∨ i = 10 ∨ i = 11 ∨ i = 12 ∨ i = 13 ∨ i = 14 ∨ i = 15 := by omega
    rcases this with rfl | rfl | rfl | rfl | rfl | rfl | rfl | rfl |
        rfl | rfl | rfl | rfl | rfl | rfl | rfl | rfl <;> simp
  have := x.isLt
  rw [key, BitVec.toNat_shiftLeft, BitVec.toNat_ushiftRight, Nat.shiftLeft_eq, Nat.shiftRight_eq_div_pow]
  omega

/-- R23: the mask on a write of AF. -/
theorem joinBytes_af (w : Word) : joinBytes (hiByte w) (loByte w &&& 0xF0) = w &&& 0xFFF0 := by
  apply BitVec.eq_of_toNat_eq
  rw [joinBytes_toNat, hiByte_toNat, and_F0_toNat, loByte_toNat, and_FFF0_toNat]
  omega

theorem get16_set16_af (g : Regs) (w : Word) : (g.set16 .af w).get16 .af = w &&& 0xFFF0 := joinBytes_af w

end Sys2Proof.Machine
end

