-- ==== Sys2Proof/Laws/Exec.lean ====
section
/-! SUPPORT. What executing one instruction can do to the state, said once: every instruction answers a next state, and
`Effect` says what that state keeps. One lemma for each shared operation, one line for each instruction. -/

namespace Sys2Proof.Machine

/-- What every instruction but `DI`, `EI`, `RETI`, `HALT` and `STOP` keeps. -/
structure Calm (s t : State) : Prop where
  ime : t.ime = s.ime
  eiDelay : t.eiDelay = s.eiDelay
  mode : t.mode = s.mode
  doubleSpeed : t.doubleSpeed = s.doubleSpeed
  clock : t.clock = s.clock
  cart : t.cart = s.cart
  joypad : t.joypad = s.joypad
  resets : t.resets = s.resets
  rom : t.mem.rom = s.mem.rom
  memInv : s.MemInv → t.MemInv
  fLow : s.regs.f &&& 0x0F = 0 → t.regs.f &&& 0x0F = 0

theorem Calm.refl (s : State) : Calm s s := ⟨rfl, rfl, rfl, rfl, rfl, rfl, rfl, rfl, rfl, id, id⟩

theorem Calm.trans {s t u : State} (h : Calm s t) (g : Calm t u) : Calm s u :=
  ⟨g.ime.trans h.ime, g.eiDelay.trans h.eiDelay, g.mode.trans h.mode, g.doubleSpeed.trans h.doubleSpeed,
    g.clock.trans h.clock, g.cart.trans h.cart, g.joypad.trans h.joypad, g.resets.trans h.resets, g.rom.trans h.rom,
    fun k => g.memInv (h.memInv k), fun k => g.fLow (h.fLow k)⟩

theorem BusStep.calm {s t : State} (h : BusStep s t) (k : s.MemInv → t.MemInv) : Calm s t :=
  ⟨h.ime, h.eiDelay, h.mode, h.doubleSpeed, h.clock, h.cart, h.joypad, h.resets, h.rom, k, by rw [h.regs]; exact id⟩

theorem calm_busRead (s : State) (a : Word) : Calm s (busRead s a).2 :=
  (busStep_busRead s a).calm fun h => h.busRead a

theorem calm_busWrite (s : State) (a : Word) (v : Byte) : Calm s (busWrite s a v) :=
  (busStep_busWrite s a v).calm fun h => h.busWrite a v

theorem calm_report (s : State) (e : Event) : Calm s (report s e) := (busStep_report s e).calm fun h => h.report e

theorem calm_setReg8 (s : State) (r : Reg8) (v : Byte) : Calm s (setReg8 s r v) :=
  ⟨rfl, rfl, rfl, rfl, rfl, rfl, rfl, rfl, rfl, fun h => h.setReg8 r v, by cases r <;> exact id⟩

theorem and_F0_low (x : Byte) : (x &&& 0xF0) &&& 0x0F = (0 : Byte) := by
  rw [BitVec.and_assoc]; exact BitVec.and_zero

theorem calm_setPair (s : State) (p : Pair) (w : Word) : Calm s (setPair s p w) := by
  refine ⟨rfl, rfl, rfl, rfl, rfl, rfl, rfl, rfl, rfl, fun h => h.setPair p w, ?_⟩
  cases p
  case af => exact fun _ => and_F0_low (loByte w)
  all_goals exact id

theorem calm_setFlags (s : State) (o : FlagOut) : Calm s (setFlags s o) :=
  ⟨rfl, rfl, rfl, rfl, rfl, rfl, rfl, rfl, rfl, fun h => h.setFlags o, fun h => (writeFlags_low s.regs.f o).trans h⟩

theorem calm_setPc (s : State) (w : Word) : Calm s (setPc s w) :=
  ⟨rfl, rfl, rfl, rfl, rfl, rfl, rfl, rfl, rfl, fun h => h.setPc w, id⟩

theorem calm_push16 (s : State) (w : Word) : Calm s (push16 s w) := by
  rw [push16_eq]
  exact (((calm_setPair s _ _).trans (calm_busWrite _ _ _)).trans (calm_setPair _ _ _)).trans (calm_busWrite _ _ _)

theorem calm_pop16 (s : State) : Calm s (pop16 s).2 := by
  rw [pop16_eq]
  exact (((calm_busRead s _).trans (calm_setPair _ _ _)).trans (calm_busRead _ _)).trans (calm_setPair _ _ _)

theorem calm_readSrc (s : State) (x : Src) : Calm s (readSrc s x).2 := by
  cases x
  exacts [.refl s, calm_busRead s _, .refl s]

theorem calm_readTarget (s : State) (t : Target) : Calm s (readTarget s t).2 := by
  cases t
  exacts [.refl s, calm_busRead s _]

theorem calm_writeTarget (s : State) (t : Target) (v : Byte) : Calm s (writeTarget s t v) := by
  cases t
  exacts [calm_setReg8 s _ v, calm_busWrite s _ v]

theorem calm_call (s : State) (w : Word) : Calm s (call s w) := (calm_push16 s _).trans (calm_setPc _ _)

theorem calm_popPc (s : State) : Calm s (popPc s) := (calm_pop16 s).trans (calm_setPc _ _)

theorem calm_if {s t : State} (c : Bool) (h : Calm s t) : Calm s (if c then t else s) := by
  cases c
  exacts [.refl s, h]

/-- What an instruction keeps, and what it does to the parts of the state that only a few instructions write. -/
structure Effect (i : Instr) (s t : State) : Prop where
  ime : i ≠ .di → i ≠ .reti → t.ime = s.ime
  eiDelay : i ≠ .ei → i ≠ .di → t.eiDelay = s.eiDelay
  mode : i ≠ .halt → t.mode = s.mode
  doubleSpeed : (∀ b, i ≠ .stop b) → t.doubleSpeed = s.doubleSpeed
  clock : t.clock = s.clock
  cart : t.cart = s.cart
  joypad : t.joypad = s.joypad
  resets : t.resets = s.resets
  rom : t.mem.rom = s.mem.rom
  memInv : s.MemInv → t.MemInv
  fLow : s.regs.f &&& 0x0F = 0 → t.regs.f &&& 0x0F = 0
  slot : s.eiDelay ≤ 2 → t.eiDelay ≤ 2

/-- The outcome is a next state that keeps what the instruction `i` keeps. -/
def Answers (i : Instr) (s : State) (r : Result) : Prop := ∃ t, r = .next t ∧ Effect i s t

theorem Calm.answers {i : Instr} {s t : State} (h : Calm s t) : Answers i s (.next t) :=
  ⟨t, rfl, fun _ _ => h.ime, fun _ _ => h.eiDelay, fun _ => h.mode, fun _ => h.doubleSpeed, h.clock, h.cart, h.joypad,
    h.resets, h.rom, h.memInv, h.fLow, fun k => h.eiDelay.trans_le k⟩

section
variable (i : Instr) (s : State)

theorem answers_opLoadReg (r q : Reg8) : Answers i s (opLoadReg r q s) := (calm_setReg8 s _ _).answers
theorem answers_opLoadImm (r : Reg8) (n : Byte) : Answers i s (opLoadImm r n s) := (calm_setReg8 s _ _).answers
theorem answers_opLoadMemHL (r : Reg8) : Answers i s (opLoadMemHL r s) :=
  ((calm_busRead s _).trans (calm_setReg8 _ _ _)).answers
theorem answers_opStoreMemHL (r : Reg8) : Answers i s (opStoreMemHL r s) := (calm_busWrite s _ _).answers
theorem answers_opLoadA (a : Word) : Answers i s (opLoadA a s) := ((calm_busRead s _).trans (calm_setReg8 _ _ _)).answers
theorem answers_opStoreA (a : Word) : Answers i s (opStoreA a s) := (calm_busWrite s _ _).answers
theorem answers_opStoreStep (d : Word) : Answers i s (opStoreStep d s) :=
  ((calm_busWrite s _ _).trans (calm_setPair _ _ _)).answers
theorem answers_opLoadStep (d : Word) : Answers i s (opLoadStep d s) :=
  (((calm_busRead s _).trans (calm_setReg8 _ _ _)).trans (calm_setPair _ _ _)).answers
theorem answers_opLoadPair (p : Pair) (w : Word) : Answers i s (opLoadPair p w s) := (calm_setPair s _ _).answers
theorem answers_opAddSp (p : Pair) (e : Byte) : Answers i s (opAddSp p e s) :=
  ((calm_setPair s _ _).trans (calm_setFlags _ _)).answers
theorem answers_opPush (p : Pair) : Answers i s (opPush p s) := (calm_push16 s _).answers
theorem answers_opPop (p : Pair) : Answers i s (opPop p s) := ((calm_pop16 s).trans (calm_setPair _ _ _)).answers
theorem answers_opAcc (fn : Byte → Byte → Bool → Byte × FlagOut) (x : Src) : Answers i s (opAcc fn x s) :=
  (((calm_readSrc s x).trans (calm_setReg8 _ _ _)).trans (calm_setFlags _ _)).answers
theorem answers_opAdd (x : Src) : Answers i s (opAdd x s) := answers_opAcc i s _ x
theorem answers_opAdc (x : Src) : Answers i s (opAdc x s) := answers_opAcc i s _ x
theorem answers_opSub (x : Src) : Answers i s (opSub x s) := answers_opAcc i s _ x
theorem answers_opSbc (x : Src) : Answers i s (opSbc x s) := answers_opAcc i s _ x
theorem answers_opAnd (x : Src) : Answers i s (opAnd x s) := answers_opAcc i s _ x
theorem answers_opXor (x : Src) : Answers i s (opXor x s) := answers_opAcc i s _ x
theorem answers_opOr (x : Src) : Answers i s (opOr x s) := answers_opAcc i s _ x
theorem answers_opCp (x : Src) : Answers i s (opCp x s) := ((calm_readSrc s x).trans (calm_setFlags _ _)).answers
theorem answers_opInc (t : Target) : Answers i s (opInc t s) :=
  (((calm_readTarget s t).trans (calm_setFlags _ _)).trans (calm_writeTarget _ _ _)).answers
theorem answers_opDec (t : Target) : Answers i s (opDec t s) :=
  (((calm_readTarget s t).trans (calm_setFlags _ _)).trans (calm_writeTarget _ _ _)).answers
theorem answers_opDaa : Answers i s (opDaa s) := ((calm_setReg8 s _ _).trans (calm_setFlags _ _)).answers
theorem answers_opAddHL (p : Pair) : Answers i s (opAddHL p s) :=
  ((calm_setPair s _ _).trans (calm_setFlags _ _)).answers
theorem answers_opIncPair (p : Pair) : Answers i s (opIncPair p s) := (calm_setPair s _ _).answers
theorem answers_opDecPair (p : Pair) : Answers i s (opDecPair p s) := (calm_setPair s _ _).answers
theorem answers_opRotA (fn : Byte → Bool → Byte × FlagOut) : Answers i s (opRotA fn s) :=
  ((calm_setReg8 s _ _).trans (calm_setFlags _ _)).answers
theorem answers_opShift (fn : Byte → Bool → Byte × FlagOut) (t : Target) : Answers i s (opShift fn t s) :=
  (((calm_readTarget s t).trans (calm_setFlags _ _)).trans (calm_writeTarget _ _ _)).answers
theorem answers_opRlc (t : Target) : Answers i s (opRlc t s) := answers_opShift i s _ t
theorem answers_opRrc (t : Target) : Answers i s (opRrc t s) := answers_opShift i s _ t
theorem answers_opRl (t : Target) : Answers i s (opRl t s) := answers_opShift i s _ t
theorem answers_opRr (t : Target) : Answers i s (opRr t s) := answers_opShift i s _ t
theorem answers_opSla (t : Target) : Answers i s (opSla t s) := answers_opShift i s _ t
theorem answers_opSra (t : Target) : Answers i s (opSra t s) := answers_opShift i s _ t
theorem answers_opSwap (t : Target) : Answers i s (opSwap t s) := answers_opShift i s _ t
theorem answers_opSrl (t : Target) : Answers i s (opSrl t s) := answers_opShift i s _ t
theorem answers_opBit (b : Nat) (t : Target) : Answers i s (opBit b t s) :=
  ((calm_readTarget s t).trans (calm_setFlags _ _)).answers
theorem answers_opRes (b : Nat) (t : Target) : Answers i s (opRes b t s) :=
  ((calm_readTarget s t).trans (calm_writeTarget _ _ _)).answers
theorem answers_opSet (b : Nat) (t : Target) : Answers i s (opSet b t s) :=
  ((calm_readTarget s t).trans (calm_writeTarget _ _ _)).answers
theorem answers_opJpIf (cc : Cond) (w : Word) : Answers i s (opJpIf cc w s) := (calm_if _ (calm_setPc s w)).answers
theorem answers_opJrIf (cc : Cond) (e : Byte) : Answers i s (opJrIf cc e s) := (calm_if _ (calm_setPc s _)).answers
theorem answers_opCallIf (cc : Cond) (w : Word) : Answers i s (opCallIf cc w s) := (calm_if _ (calm_call s w)).answers
theorem answers_opRetIf (cc : Cond) : Answers i s (opRetIf cc s) := (calm_if _ (calm_popPc s)).answers
theorem answers_opRst (w : Word) : Answers i s (opRst w s) := (calm_call s w).answers
theorem answers_opIllegal (b : Byte) : Answers i s (opIllegal b s) := (calm_report s _).answers
end

/-- A step of KEY1 and of the speed together keeps what the invariant says of them (R122). -/
theorem State.MemInv.speedSwitch {s : State} (h : s.MemInv) : (speedSwitch s).MemInv := by
  unfold Machine.speedSwitch
  split
  · rename_i hc
    obtain ⟨g1, g2, -⟩ := h.cgb hc.1
    refine h.of_cgb hc.1 (o := 0x4D) (v := if s.doubleSpeed then 0x00 else 0x80) (by decide) (by decide) (by decide) rfl rfl
      rfl rfl g1 g2 ?_
    rw [if_pos rfl]
    show _ = if !s.doubleSpeed then _ else _
    cases s.doubleSpeed <;> decide
  · exact h

theorem answers_stop (b : Byte) (s : State) : Answers (.stop b) s (opStop b s) := by
  refine ⟨_, rfl, ?_⟩
  have hm := fun h : s.MemInv => h.speedSwitch
  unfold speedSwitch at hm ⊢
  split
  · rename_i hc
    rw [if_pos hc] at hm
    exact ⟨fun _ _ => rfl, fun _ _ => rfl, fun _ => rfl, fun h => absurd rfl (h b), rfl, rfl, rfl, rfl, rfl, hm, id, id⟩
  · obtain ⟨t, h, e⟩ := (Calm.refl s).answers (i := .stop b)
    cases h; exact e

theorem answers_reti (s : State) : Answers .reti s (execReti s) := by
  have h := calm_popPc s
  have e : execReti s = .next { popPc s with ime := true } := rfl
  generalize popPc s = t at h e
  rw [e]
  exact ⟨_, rfl, fun _ g => absurd rfl g, fun _ _ => h.eiDelay, fun _ => h.mode, fun _ => h.doubleSpeed, h.clock, h.cart,
    h.joypad, h.resets, h.rom, fun k => (h.memInv k).of_eq rfl rfl rfl rfl rfl rfl rfl rfl, h.fLow,
    fun k => h.eiDelay.trans_le k⟩

/-- Every instruction answers a next state, and that state keeps what `Effect` says. -/
theorem exec_answers (i : Instr) (s : State) : Answers i s (exec i s) := by
  cases i with
  | nop => exact (Calm.refl s).answers
  | ldBCNn _ => exact answers_opLoadPair _ s _ _
  | ldMemBCA => exact answers_opStoreA _ s _
  | incBC => exact answers_opIncPair _ s _
  | incB => exact answers_opInc _ s _
  | decB => exact answers_opDec _ s _
  | ldBN _ => exact answers_opLoadImm _ s _ _
  | rlca => exact answers_opRotA _ s (fun v _ => rlc8 v)
  | ldMemNnSP _ => exact ((calm_busWrite s _ _).trans (calm_busWrite _ _ _)).answers
  | addHLBC => exact answers_opAddHL _ s _
  | ldAMemBC => exact answers_opLoadA _ s _
  | decBC => exact answers_opDecPair _ s _
  | incC => exact answers_opInc _ s _
  | decC => exact answers_opDec _ s _
  | ldCN _ => exact answers_opLoadImm _ s _ _
  | rrca => exact answers_opRotA _ s (fun v _ => rrc8 v)
  | stop _ => exact answers_stop _ s
  | ldDENn _ => exact answers_opLoadPair _ s _ _
  | ldMemDEA => exact answers_opStoreA _ s _
  | incDE => exact answers_opIncPair _ s _
  | incD => exact answers_opInc _ s _
  | decD => exact answers_opDec _ s _
  | ldDN _ => exact answers_opLoadImm _ s _ _
  | rla => exact answers_opRotA _ s _
  | jrE _ => exact (calm_setPc s _).answers
  | addHLDE => exact answers_opAddHL _ s _
  | ldAMemDE => exact answers_opLoadA _ s _
  | decDE => exact answers_opDecPair _ s _
  | incE => exact answers_opInc _ s _
  | decE => exact answers_opDec _ s _
  | ldEN _ => exact answers_opLoadImm _ s _ _
  | rra => exact answers_opRotA _ s _
  | jrNZE _ => exact answers_opJrIf _ s _ _
  | ldHLNn _ => exact answers_opLoadPair _ s _ _
  | ldMemHLIncA => exact answers_opStoreStep _ s _
  | incHL => exact answers_opIncPair _ s _
  | incH => exact answers_opInc _ s _
  | decH => exact answers_opDec _ s _
  | ldHN _ => exact answers_opLoadImm _ s _ _
  | daa => exact answers_opDaa _ s
  | jrZE _ => exact answers_opJrIf _ s _ _
  | addHLHL => exact answers_opAddHL _ s _
  | ldAMemHLInc => exact answers_opLoadStep _ s _
  | decHL => exact answers_opDecPair _ s _
  | incL => exact answers_opInc _ s _
  | decL => exact answers_opDec _ s _
  | ldLN _ => exact answers_opLoadImm _ s _ _
  | cpl => exact ((calm_setReg8 s _ _).trans (calm_setFlags _ _)).answers
  | jrNCE _ => exact answers_opJrIf _ s _ _
  | ldSPNn _ => exact answers_opLoadPair _ s _ _
  | ldMemHLDecA => exact answers_opStoreStep _ s _
  | incSP => exact answers_opIncPair _ s _
  | incMemHL => exact answers_opInc _ s _
  | decMemHL => exact answers_opDec _ s _
  | ldMemHLN _ => exact (calm_busWrite s _ _).answers
  | scf => exact (calm_setFlags s _).answers
  | jrCE _ => exact answers_opJrIf _ s _ _
  | addHLSP => exact answers_opAddHL _ s _
  | ldAMemHLDec => exact answers_opLoadStep _ s _
  | decSP => exact answers_opDecPair _ s _
  | incA => exact answers_opInc _ s _
  | decA => exact answers_opDec _ s _
  | ldAN _ => exact answers_opLoadImm _ s _ _
  | ccf => exact (calm_setFlags s _).answers
  | ldBB => exact answers_opLoadReg _ s _ _
  | ldBC => exact answers_opLoadReg _ s _ _
  | ldBD => exact answers_opLoadReg _ s _ _
  | ldBE => exact answers_opLoadReg _ s _ _
  | ldBH => exact answers_opLoadReg _ s _ _
  | ldBL => exact answers_opLoadReg _ s _ _
  | ldBMemHL => exact answers_opLoadMemHL _ s _
  | ldBA => exact answers_opLoadReg _ s _ _
  | ldCB => exact answers_opLoadReg _ s _ _
  | ldCC => exact answers_opLoadReg _ s _ _
  | ldCD => exact answers_opLoadReg _ s _ _
  | ldCE => exact answers_opLoadReg _ s _ _
  | ldCH => exact answers_opLoadReg _ s _ _
  | ldCL => exact answers_opLoadReg _ s _ _
  | ldCMemHL => exact answers_opLoadMemHL _ s _
  | ldCA => exact answers_opLoadReg _ s _ _
  | ldDB => exact answers_opLoadReg _ s _ _
  | ldDC => exact answers_opLoadReg _ s _ _
  | ldDD => exact answers_opLoadReg _ s _ _
  | ldDE => exact answers_opLoadReg _ s _ _
  | ldDH => exact answers_opLoadReg _ s _ _
  | ldDL => exact answers_opLoadReg _ s _ _
  | ldDMemHL => exact answers_opLoadMemHL _ s _
  | ldDA => exact answers_opLoadReg _ s _ _
  | ldEB => exact answers_opLoadReg _ s _ _
  | ldEC => exact answers_opLoadReg _ s _ _
  | ldED => exact answers_opLoadReg _ s _ _
  | ldEE => exact answers_opLoadReg _ s _ _
  | ldEH => exact answers_opLoadReg _ s _ _
  | ldEL => exact answers_opLoadReg _ s _ _
  | ldEMemHL => exact answers_opLoadMemHL _ s _
  | ldEA => exact answers_opLoadReg _ s _ _
  | ldHB => exact answers_opLoadReg _ s _ _
  | ldHC => exact answers_opLoadReg _ s _ _
  | ldHD => exact answers_opLoadReg _ s _ _
  | ldHE => exact answers_opLoadReg _ s _ _
  | ldHH => exact answers_opLoadReg _ s _ _
  | ldHL => exact answers_opLoadReg _ s _ _
  | ldHMemHL => exact answers_opLoadMemHL _ s _
  | ldHA => exact answers_opLoadReg _ s _ _
  | ldLB => exact answers_opLoadReg _ s _ _
  | ldLC => exact answers_opLoadReg _ s _ _
  | ldLD => exact answers_opLoadReg _ s _ _
  | ldLE => exact answers_opLoadReg _ s _ _
  | ldLH => exact answers_opLoadReg _ s _ _
  | ldLL => exact answers_opLoadReg _ s _ _
  | ldLMemHL => exact answers_opLoadMemHL _ s _
  | ldLA => exact answers_opLoadReg _ s _ _
  | ldMemHLB => exact answers_opStoreMemHL _ s _
  | ldMemHLC => exact answers_opStoreMemHL _ s _
  | ldMemHLD => exact answers_opStoreMemHL _ s _
  | ldMemHLE => exact answers_opStoreMemHL _ s _
  | ldMemHLH => exact answers_opStoreMemHL _ s _
  | ldMemHLL => exact answers_opStoreMemHL _ s _
  | halt => exact ⟨_, rfl, fun _ _ => rfl, fun _ _ => rfl, fun h => absurd rfl h, fun _ => rfl, rfl, rfl, rfl, rfl, rfl,
      fun h => h.of_eq rfl rfl rfl rfl rfl rfl rfl rfl, id, id⟩
  | ldMemHLA => exact answers_opStoreMemHL _ s _
  | ldAB => exact answers_opLoadReg _ s _ _
  | ldAC => exact answers_opLoadReg _ s _ _
  | ldAD => exact answers_opLoadReg _ s _ _
  | ldAE => exact answers_opLoadReg _ s _ _
  | ldAH => exact answers_opLoadReg _ s _ _
  | ldAL => exact answers_opLoadReg _ s _ _
  | ldAMemHL => exact answers_opLoadMemHL _ s _
  | ldAA => exact answers_opLoadReg _ s _ _
  | addAB => exact answers_opAdd _ s _
  | addAC => exact answers_opAdd _ s _
  | addAD => exact answers_opAdd _ s _
  | addAE => exact answers_opAdd _ s _
  | addAH => exact answers_opAdd _ s _
  | addAL => exact answers_opAdd _ s _
  | addAMemHL => exact answers_opAdd _ s _
  | addAA => exact answers_opAdd _ s _
  | adcAB => exact answers_opAdc _ s _
  | adcAC => exact answers_opAdc _ s _
  | adcAD => exact answers_opAdc _ s _
  | adcAE => exact answers_opAdc _ s _
  | adcAH => exact answers_opAdc _ s _
  | adcAL => exact answers_opAdc _ s _
  | adcAMemHL => exact answers_opAdc _ s _
  | adcAA => exact answers_opAdc _ s _
  | subAB => exact answers_opSub _ s _
  | subAC => exact answers_opSub _ s _
  | subAD => exact answers_opSub _ s _
  | subAE => exact answers_opSub _ s _
  | subAH => exact answers_opSub _ s _
  | subAL => exact answers_opSub _ s _
  | subAMemHL => exact answers_opSub _ s _
  | subAA => exact answers_opSub _ s _
  | sbcAB => exact answers_opSbc _ s _
  | sbcAC => exact answers_opSbc _ s _
  | sbcAD => exact answers_opSbc _ s _
  | sbcAE => exact answers_opSbc _ s _
  | sbcAH => exact answers_opSbc _ s _
  | sbcAL => exact answers_opSbc _ s _
  | sbcAMemHL => exact answers_opSbc _ s _
  | sbcAA => exact answers_opSbc _ s _
  | andAB => exact answers_opAnd _ s _
  | andAC => exact answers_opAnd _ s _
  | andAD => exact answers_opAnd _ s _
  | andAE => exact answers_opAnd _ s _
  | andAH => exact answers_opAnd _ s _
  | andAL => exact answers_opAnd _ s _
  | andAMemHL => exact answers_opAnd _ s _
  | andAA => exact answers_opAnd _ s _
  | xorAB => exact answers_opXor _ s _
  | xorAC => exact answers_opXor _ s _
  | xorAD => exact answers_opXor _ s _
  | xorAE => exact answers_opXor _ s _
  | xorAH => exact answers_opXor _ s _
  | xorAL => exact answers_opXor _ s _
  | xorAMemHL => exact answers_opXor _ s _
  | xorAA => exact answers_opXor _ s _
  | orAB => exact answers_opOr _ s _
  | orAC => exact answers_opOr _ s _
  | orAD => exact answers_opOr _ s _
  | orAE => exact answers_opOr _ s _
  | orAH => exact answers_opOr _ s _
  | orAL => exact answers_opOr _ s _
  | orAMemHL => exact answers_opOr _ s _
  | orAA => exact answers_opOr _ s _
  | cpAB => exact answers_opCp _ s _
  | cpAC => exact answers_opCp _ s _
  | cpAD => exact answers_opCp _ s _
  | cpAE => exact answers_opCp _ s _
  | cpAH => exact answers_opCp _ s _
  | cpAL => exact answers_opCp _ s _
  | cpAMemHL => exact answers_opCp _ s _
  | cpAA => exact answers_opCp _ s _
  | retNZ => exact answers_opRetIf _ s _
  | popBC => exact answers_opPop _ s _
  | jpNZNn _ => exact answers_opJpIf _ s _ _
  | jpNn _ => exact (calm_setPc s _).answers
  | callNZNn _ => exact answers_opCallIf _ s _ _
  | pushBC => exact answers_opPush _ s _
  | addAN _ => exact answers_opAdd _ s _
  | rst00 => exact answers_opRst _ s _
  | retZ => exact answers_opRetIf _ s _
  | ret => exact (calm_popPc s).answers
  | jpZNn _ => exact answers_opJpIf _ s _ _
  | callZNn _ => exact answers_opCallIf _ s _ _
  | callNn _ => exact (calm_call s _).answers
  | adcAN _ => exact answers_opAdc _ s _
  | rst08 => exact answers_opRst _ s _
  | retNC => exact answers_opRetIf _ s _
  | popDE => exact answers_opPop _ s _
  | jpNCNn _ => exact answers_opJpIf _ s _ _
  | illegalD3 => exact answers_opIllegal _ s _
  | callNCNn _ => exact answers_opCallIf _ s _ _
  | pushDE => exact answers_opPush _ s _
  | subAN _ => exact answers_opSub _ s _
  | rst10 => exact answers_opRst _ s _
  | retC => exact answers_opRetIf _ s _
  | reti => exact answers_reti s
  | jpCNn _ => exact answers_opJpIf _ s _ _
  | illegalDB => exact answers_opIllegal _ s _
  | callCNn _ => exact answers_opCallIf _ s _ _
  | illegalDD => exact answers_opIllegal _ s _
  | sbcAN _ => exact answers_opSbc _ s _
  | rst18 => exact answers_opRst _ s _
  | ldhMemNA _ => exact answers_opStoreA _ s _
  | popHL => exact answers_opPop _ s _
  | ldhMemCA => exact answers_opStoreA _ s _
  | illegalE3 => exact answers_opIllegal _ s _
  | illegalE4 => exact answers_opIllegal _ s _
  | pushHL => exact answers_opPush _ s _
  | andAN _ => exact answers_opAnd _ s _
  | rst20 => exact answers_opRst _ s _
  | addSPE _ => exact answers_opAddSp _ s _ _
  | jpHL => exact (calm_setPc s _).answers
  | ldMemNnA _ => exact answers_opStoreA _ s _
  | illegalEB => exact answers_opIllegal _ s _
  | illegalEC => exact answers_opIllegal _ s _
  | illegalED => exact answers_opIllegal _ s _
  | xorAN _ => exact answers_opXor _ s _
  | rst28 => exact answers_opRst _ s _
  | ldhAMemN _ => exact answers_opLoadA _ s _
  | popAF => exact answers_opPop _ s _
  | ldhAMemC => exact answers_opLoadA _ s _
  | di => exact ⟨_, rfl, fun h => absurd rfl h, fun _ h => absurd rfl h, fun _ => rfl, fun _ => rfl, rfl, rfl, rfl, rfl, rfl,
      fun h => h.of_eq rfl rfl rfl rfl rfl rfl rfl rfl, id, fun _ => Nat.zero_le 2⟩
  | illegalF4 => exact answers_opIllegal _ s _
  | pushAF => exact answers_opPush _ s _
  | orAN _ => exact answers_opOr _ s _
  | rst30 => exact answers_opRst _ s _
  | ldHLSPE _ => exact answers_opAddSp _ s _ _
  | ldSPHL => exact (calm_setPair s _ _).answers
  | ldAMemNn _ => exact answers_opLoadA _ s _
  | ei => exact ⟨_, rfl, fun _ _ => rfl, fun h => absurd rfl h, fun _ => rfl, fun _ => rfl, rfl, rfl, rfl, rfl, rfl,
      fun h => h.of_eq rfl rfl rfl rfl rfl rfl rfl rfl, id, fun _ => Nat.le_refl 2⟩
  | illegalFC => exact answers_opIllegal _ s _
  | illegalFD => exact answers_opIllegal _ s _
  | cpAN _ => exact answers_opCp _ s _
  | rst38 => exact answers_opRst _ s _
  | rlcB => exact answers_opRlc _ s _
  | rlcC => exact answers_opRlc _ s _
  | rlcD => exact answers_opRlc _ s _
  | rlcE => exact answers_opRlc _ s _
  | rlcH => exact answers_opRlc _ s _
  | rlcL => exact answers_opRlc _ s _
  | rlcMemHL => exact answers_opRlc _ s _
  | rlcA => exact answers_opRlc _ s _
  | rrcB => exact answers_opRrc _ s _
  | rrcC => exact answers_opRrc _ s _
  | rrcD => exact answers_opRrc _ s _
  | rrcE => exact answers_opRrc _ s _
  | rrcH => exact answers_opRrc _ s _
  | rrcL => exact answers_opRrc _ s _
  | rrcMemHL => exact answers_opRrc _ s _
  | rrcA => exact answers_opRrc _ s _
  | rlB => exact answers_opRl _ s _
  | rlC => exact answers_opRl _ s _
  | rlD => exact answers_opRl _ s _
  | rlE => exact answers_opRl _ s _
  | rlH => exact answers_opRl _ s _
  | rlL => exact answers_opRl _ s _
  | rlMemHL => exact answers_opRl _ s _
  | rlA => exact answers_opRl _ s _
  | rrB => exact answers_opRr _ s _
  | rrC => exact answers_opRr _ s _
  | rrD => exact answers_opRr _ s _
  | rrE => exact answers_opRr _ s _
  | rrH => exact answers_opRr _ s _
  | rrL => exact answers_opRr _ s _
  | rrMemHL => exact answers_opRr _ s _
  | rrA => exact answers_opRr _ s _
  | slaB => exact answers_opSla _ s _
  | slaC => exact answers_opSla _ s _
  | slaD => exact answers_opSla _ s _
  | slaE => exact answers_opSla _ s _
  | slaH => exact answers_opSla _ s _
  | slaL => exact answers_opSla _ s _
  | slaMemHL => exact answers_opSla _ s _
  | slaA => exact answers_opSla _ s _
  | sraB => exact answers_opSra _ s _
  | sraC => exact answers_opSra _ s _
  | sraD => exact answers_opSra _ s _
  | sraE => exact answers_opSra _ s _
  | sraH => exact answers_opSra _ s _
  | sraL => exact answers_opSra _ s _
  | sraMemHL => exact answers_opSra _ s _
  | sraA => exact answers_opSra _ s _
  | swapB => exact answers_opSwap _ s _
  | swapC => exact answers_opSwap _ s _
  | swapD => exact answers_opSwap _ s _
  | swapE => exact answers_opSwap _ s _
  | swapH => exact answers_opSwap _ s _
  | swapL => exact answers_opSwap _ s _
  | swapMemHL => exact answers_opSwap _ s _
  | swapA => exact answers_opSwap _ s _
  | srlB => exact answers_opSrl _ s _
  | srlC => exact answers_opSrl _ s _
  | srlD => exact answers_opSrl _ s _
  | srlE => exact answers_opSrl _ s _
  | srlH => exact answers_opSrl _ s _
  | srlL => exact answers_opSrl _ s _
  | srlMemHL => exact answers_opSrl _ s _
  | srlA => exact answers_opSrl _ s _
  | bit0B => exact answers_opBit _ s _ _
  | bit0C => exact answers_opBit _ s _ _
  | bit0D => exact answers_opBit _ s _ _
  | bit0E => exact answers_opBit _ s _ _
  | bit0H => exact answers_opBit _ s _ _
  | bit0L => exact answers_opBit _ s _ _
  | bit0MemHL => exact answers_opBit _ s _ _
  | bit0A => exact answers_opBit _ s _ _
  | bit1B => exact answers_opBit _ s _ _
  | bit1C => exact answers_opBit _ s _ _
  | bit1D => exact answers_opBit _ s _ _
  | bit1E => exact answers_opBit _ s _ _
  | bit1H => exact answers_opBit _ s _ _
  | bit1L => exact answers_opBit _ s _ _
  | bit1MemHL => exact answers_opBit _ s _ _
  | bit1A => exact answers_opBit _ s _ _
  | bit2B => exact answers_opBit _ s _ _
  | bit2C => exact answers_opBit _ s _ _
  | bit2D => exact answers_opBit _ s _ _
  | bit2E => exact answers_opBit _ s _ _
  | bit2H => exact answers_opBit _ s _ _
  | bit2L => exact answers_opBit _ s _ _
  | bit2MemHL => exact answers_opBit _ s _ _
  | bit2A => exact answers_opBit _ s _ _
  | bit3B => exact answers_opBit _ s _ _
  | bit3C => exact answers_opBit _ s _ _
  | bit3D => exact answers_opBit _ s _ _
  | bit3E => exact answers_opBit _ s _ _
  | bit3H => exact answers_opBit _ s _ _
  | bit3L => exact answers_opBit _ s _ _
  | bit3MemHL => exact answers_opBit _ s _ _
  | bit3A => exact answers_opBit _ s _ _
  | bit4B => exact answers_opBit _ s _ _
  | bit4C => exact answers_opBit _ s _ _
  | bit4D => exact answers_opBit _ s _ _
  | bit4E => exact answers_opBit _ s _ _
  | bit4H => exact answers_opBit _ s _ _
  | bit4L => exact answers_opBit _ s _ _
  | bit4MemHL => exact answers_opBit _ s _ _
  | bit4A => exact answers_opBit _ s _ _
  | bit5B => exact answers_opBit _ s _ _
  | bit5C => exact answers_opBit _ s _ _
  | bit5D => exact answers_opBit _ s _ _
  | bit5E => exact answers_opBit _ s _ _
  | bit5H => exact answers_opBit _ s _ _
  | bit5L => exact answers_opBit _ s _ _
  | bit5MemHL => exact answers_opBit _ s _ _
  | bit5A => exact answers_opBit _ s _ _
  | bit6B => exact answers_opBit _ s _ _
  | bit6C => exact answers_opBit _ s _ _
  | bit6D => exact answers_opBit _ s _ _
  | bit6E => exact answers_opBit _ s _ _
  | bit6H => exact answers_opBit _ s _ _
  | bit6L => exact answers_opBit _ s _ _
  | bit6MemHL => exact answers_opBit _ s _ _
  | bit6A => exact answers_opBit _ s _ _
  | bit7B => exact answers_opBit _ s _ _
  | bit7C => exact answers_opBit _ s _ _
  | bit7D => exact answers_opBit _ s _ _
  | bit7E => exact answers_opBit _ s _ _
  | bit7H => exact answers_opBit _ s _ _
  | bit7L => exact answers_opBit _ s _ _
  | bit7MemHL => exact answers_opBit _ s _ _
  | bit7A => exact answers_opBit _ s _ _
  | res0B => exact answers_opRes _ s _ _
  | res0C => exact answers_opRes _ s _ _
  | res0D => exact answers_opRes _ s _ _
  | res0E => exact answers_opRes _ s _ _
  | res0H => exact answers_opRes _ s _ _
  | res0L => exact answers_opRes _ s _ _
  | res0MemHL => exact answers_opRes _ s _ _
  | res0A => exact answers_opRes _ s _ _
  | res1B => exact answers_opRes _ s _ _
  | res1C => exact answers_opRes _ s _ _
  | res1D => exact answers_opRes _ s _ _
  | res1E => exact answers_opRes _ s _ _
  | res1H => exact answers_opRes _ s _ _
  | res1L => exact answers_opRes _ s _ _
  | res1MemHL => exact answers_opRes _ s _ _
  | res1A => exact answers_opRes _ s _ _
  | res2B => exact answers_opRes _ s _ _
  | res2C => exact answers_opRes _ s _ _
  | res2D => exact answers_opRes _ s _ _
  | res2E => exact answers_opRes _ s _ _
  | res2H => exact answers_opRes _ s _ _
  | res2L => exact answers_opRes _ s _ _
  | res2MemHL => exact answers_opRes _ s _ _
  | res2A => exact answers_opRes _ s _ _
  | res3B => exact answers_opRes _ s _ _
  | res3C => exact answers_opRes _ s _ _
  | res3D => exact answers_opRes _ s _ _
  | res3E => exact answers_opRes _ s _ _
  | res3H => exact answers_opRes _ s _ _
  | res3L => exact answers_opRes _ s _ _
  | res3MemHL => exact answers_opRes _ s _ _
  | res3A => exact answers_opRes _ s _ _
  | res4B => exact answers_opRes _ s _ _
  | res4C => exact answers_opRes _ s _ _
  | res4D => exact answers_opRes _ s _ _
  | res4E => exact answers_opRes _ s _ _
  | res4H => exact answers_opRes _ s _ _
  | res4L => exact answers_opRes _ s _ _
  | res4MemHL => exact answers_opRes _ s _ _
  | res4A => exact answers_opRes _ s _ _
  | res5B => exact answers_opRes _ s _ _
  | res5C => exact answers_opRes _ s _ _
  | res5D => exact answers_opRes _ s _ _
  | res5E => exact answers_opRes _ s _ _
  | res5H => exact answers_opRes _ s _ _
  | res5L => exact answers_opRes _ s _ _
  | res5MemHL => exact answers_opRes _ s _ _
  | res5A => exact answers_opRes _ s _ _
  | res6B => exact answers_opRes _ s _ _
  | res6C => exact answers_opRes _ s _ _
  | res6D => exact answers_opRes _ s _ _
  | res6E => exact answers_opRes _ s _ _
  | res6H => exact answers_opRes _ s _ _
  | res6L => exact answers_opRes _ s _ _
  | res6MemHL => exact answers_opRes _ s _ _
  | res6A => exact answers_opRes _ s _ _
  | res7B => exact answers_opRes _ s _ _
  | res7C => exact answers_opRes _ s _ _
  | res7D => exact answers_opRes _ s _ _
  | res7E => exact answers_opRes _ s _ _
  | res7H => exact answers_opRes _ s _ _
  | res7L => exact answers_opRes _ s _ _
  | res7MemHL => exact answers_opRes _ s _ _
  | res7A => exact answers_opRes _ s _ _
  | set0B => exact answers_opSet _ s _ _
  | set0C => exact answers_opSet _ s _ _
  | set0D => exact answers_opSet _ s _ _
  | set0E => exact answers_opSet _ s _ _
  | set0H => exact answers_opSet _ s _ _
  | set0L => exact answers_opSet _ s _ _
  | set0MemHL => exact answers_opSet _ s _ _
  | set0A => exact answers_opSet _ s _ _
  | set1B => exact answers_opSet _ s _ _
  | set1C => exact answers_opSet _ s _ _
  | set1D => exact answers_opSet _ s _ _
  | set1E => exact answers_opSet _ s _ _
  | set1H => exact answers_opSet _ s _ _
  | set1L => exact answers_opSet _ s _ _
  | set1MemHL => exact answers_opSet _ s _ _
  | set1A => exact answers_opSet _ s _ _
  | set2B => exact answers_opSet _ s _ _
  | set2C => exact answers_opSet _ s _ _
  | set2D => exact answers_opSet _ s _ _
  | set2E => exact answers_opSet _ s _ _
  | set2H => exact answers_opSet _ s _ _
  | set2L => exact answers_opSet _ s _ _
  | set2MemHL => exact answers_opSet _ s _ _
  | set2A => exact answers_opSet _ s _ _
  | set3B => exact answers_opSet _ s _ _
  | set3C => exact answers_opSet _ s _ _
  | set3D => exact answers_opSet _ s _ _
  | set3E => exact answers_opSet _ s _ _
  | set3H => exact answers_opSet _ s _ _
  | set3L => exact answers_opSet _ s _ _
  | set3MemHL => exact answers_opSet _ s _ _
  | set3A => exact answers_opSet _ s _ _
  | set4B => exact answers_opSet _ s _ _
  | set4C => exact answers_opSet _ s _ _
  | set4D => exact answers_opSet _ s _ _
  | set4E => exact answers_opSet _ s _ _
  | set4H => exact answers_opSet _ s _ _
  | set4L => exact answers_opSet _ s _ _
  | set4MemHL => exact answers_opSet _ s _ _
  | set4A => exact answers_opSet _ s _ _
  | set5B => exact answers_opSet _ s _ _
  | set5C => exact answers_opSet _ s _ _
  | set5D => exact answers_opSet _ s _ _
  | set5E => exact answers_opSet _ s _ _
  | set5H => exact answers_opSet _ s _ _
  | set5L => exact answers_opSet _ s _ _
  | set5MemHL => exact answers_opSet _ s _ _
  | set5A => exact answers_opSet _ s _ _
  | set6B => exact answers_opSet _ s _ _
  | set6C => exact answers_opSet _ s _ _
  | set6D => exact answers_opSet _ s _ _
  | set6E => exact answers_opSet _ s _ _
  | set6H => exact answers_opSet _ s _ _
  | set6L => exact answers_opSet _ s _ _
  | set6MemHL => exact answers_opSet _ s _ _
  | set6A => exact answers_opSet _ s _ _
  | set7B => exact answers_opSet _ s _ _
  | set7C => exact answers_opSet _ s _ _
  | set7D => exact answers_opSet _ s _ _
  | set7E => exact answers_opSet _ s _ _
  | set7H => exact answers_opSet _ s _ _
  | set7L => exact answers_opSet _ s _ _
  | set7MemHL => exact answers_opSet _ s _ _
  | set7A => exact answers_opSet _ s _ _

end Sys2Proof.Machine
end

