-- ==== Sys2Proof/Laws/Registers.lean ====
section
/-! SUPPORT. The bus reads and writes no register: a bus access commutes with a change of the registers. -/

namespace Sys2Proof.Machine

theorem busRead_withRegs (s : State) (g : Regs) (a : Word) :
    busRead { s with regs := g } a = ((busRead s a).1, { (busRead s a).2 with regs := g }) := by
  have h : route { s with regs := g } a = route s a := rfl
  unfold busRead
  rw [h]
  cases route s a <;> rfl

theorem writeCell_withRegs (s : State) (g : Regs) (r : Region) (k : Nat) (b : Byte) :
    writeCell { s with regs := g } r k b = { writeCell s r k b with regs := g } := rfl

theorem oamCopy_withRegs (s : State) (g : Regs) (src : Word) (n i : Nat) :
    oamCopy src n i { s with regs := g } = { oamCopy src n i s with regs := g } := by
  induction n generalizing i s with
  | zero => rfl
  | succ n ih => simp only [oamCopy, busRead_withRegs, writeCell_withRegs, ih]

theorem vramCopy_withRegs (s : State) (g : Regs) (src dst : Word) (n i : Nat) :
    vramCopy src dst n i { s with regs := g } = { vramCopy src dst n i s with regs := g } := by
  induction n generalizing i s with
  | zero => rfl
  | succ n ih =>
    have hv : ∀ t : State, vramBankOf { t with regs := g } = vramBankOf t := fun _ => rfl
    simp only [vramCopy, busRead_withRegs, hv, writeCell_withRegs, ih]

theorem hdmaBlock_withRegs (s : State) (g : Regs) : hdmaBlock { s with regs := g } = { hdmaBlock s with regs := g } := by
  have hs : hdmaSrc { s with regs := g } = hdmaSrc s := rfl
  have hd : hdmaDst { s with regs := g } = hdmaDst s := rfl
  unfold hdmaBlock
  rw [hs, hd, vramCopy_withRegs]
  rfl

theorem hdmaBlocks_withRegs (s : State) (g : Regs) (n : Nat) :
    hdmaBlocks n { s with regs := g } = { hdmaBlocks n s with regs := g } := by
  induction n generalizing s with
  | zero => rfl
  | succ n ih => simp only [hdmaBlocks, hdmaBlock_withRegs, ih]

theorem ioWrite_withRegs (s : State) (g : Regs) (o v : Byte) :
    ioWrite { s with regs := g } o v = { ioWrite s o v with regs := g } := by
  have dma : oamDma (writeIo { s with regs := g } 0x46 v) v = { oamDma (writeIo s 0x46 v) v with regs := g } :=
    oamCopy_withRegs (writeIo s 0x46 v) g _ _ _
  have hdma : hdmaControl { s with regs := g } v = { hdmaControl s v with regs := g } := by
    unfold hdmaControl
    dsimp only
    split
    · rfl
    split
    · rfl
    · rw [hdmaBlocks_withRegs]; rfl
  have cgb : cgbIoWrite { s with regs := g } o v = { cgbIoWrite s o v with regs := g } := by
    unfold cgbIoWrite
    split
    · rfl
    · rfl
    · exact hdma
    · rfl
    · rfl
    · rfl
    · rfl
  unfold ioWrite
  split
  · rfl
  · rfl
  · rfl
  · exact dma
  · dsimp only
    split
    · exact cgb
    · rfl

theorem busWrite_withRegs (s : State) (g : Regs) (a : Word) (v : Byte) :
    busWrite { s with regs := g } a v = { busWrite s a v with regs := g } := by
  have h : route { s with regs := g } a = route s a := rfl
  unfold busWrite
  rw [h]
  split
  · rfl
  · cases route s a with
    | io o => exact ioWrite_withRegs s g o v
    | _ => rfl

end Sys2Proof.Machine
end

