-- ==== Sys2Proof/Laws/Frame.lean ====
section
/-! SUPPORT. The shared operations in the terms of Safety/Frame.lean: stores, the stack in terms of bus accesses, what writing
an accumulator, an operand or a pair back leaves alone. -/

namespace Sys2Proof.Machine

/-! Stores. -/

theorem storedAt_writeCell (s : State) (r : Region) (k : Nat) (v : Byte) : storedAt s r k v (writeCell s r k v) :=
  ⟨rfl, by simp, fun q j h => by rw [readCell_writeCell, if_neg h]⟩

theorem RtcRegs.read_write (r : RtcRegs) (i : Nat) (v : Byte) : (r.write i v).read i = v := by
  rcases i with _ | _ | _ | _ | i <;> rfl

theorem RtcRegs.read_write_ne (r : RtcRegs) (v : Byte) {i j : Nat} (hi : i < 5) (hj : j < 5) (h : j ≠ i) :
    (r.write i v).read j = r.read j := by
  interval_cases i <;> interval_cases j <;> first | rfl | exact absurd rfl h

/-- A plain I/O offset takes the byte and does nothing else (R100). -/
theorem ioWrite_plain {s : State} {o : Byte} (v : Byte) (h : ioPlain s.cart.cgb o = true) :
    ioWrite s o v = writeIo s o.toNat v := by
  simp only [ioPlain, List.contains_eq_mem, List.mem_cons, List.not_mem_nil, or_false, Bool.and_eq_true,
    Bool.not_eq_true', Bool.and_eq_false_iff, decide_eq_false_iff_not, not_or] at h
  obtain ⟨⟨n0, n1, n2, n3⟩, h⟩ := h
  have ne : ∀ {b : Byte}, o ≠ b → o.toNat ≠ b.toNat := fun g q => g (BitVec.eq_of_toNat_eq q)
  unfold ioWrite
  split
  · exact absurd (by assumption) (ne n0)
  · exact absurd (by assumption) (ne n1)
  · exact absurd (by assumption) (ne n2)
  · exact absurd (by assumption) (ne n3)
  · split
    · rename_i hc
      obtain h | ⟨q0, q1, q2, q3, q4, q5⟩ := h
      · rw [hc] at h; cases h
      unfold cgbIoWrite
      split
      · exact absurd (by assumption) (ne q0)
      · exact absurd (by assumption) (ne q1)
      · exact absurd (by assumption) (ne q2)
      · exact absurd (by assumption) (ne q3)
      · exact absurd (by assumption) (ne q4)
      · exact absurd (by assumption) (ne q5)
      · rfl
    · rfl

/-! Copies over the bus. -/

theorem sameButCopies_refl (s : State) : sameButCopies s s := rfl

theorem sameButCopies_trans {s t u : State} (h : sameButCopies s t) (g : sameButCopies t u) : sameButCopies s u := by
  unfold sameButCopies at *; rw [g, h]

theorem sameButCopies_writeCell (s : State) (r : Region) (k : Nat) (v : Byte) : sameButCopies s (writeCell s r k v) := rfl

theorem sameButCopies_writeIo (s : State) (o : Nat) (v : Byte) : sameButCopies s (writeIo s o v) := rfl

theorem sameButCopies_busRead (s : State) (a : Word) : sameButCopies s (busRead s a).2 := by
  rcases busRead_cases s a with h | h | h <;> rw [h] <;> rfl

theorem sameButCopies_oamCopy (src : Word) (n i : Nat) (s : State) : sameButCopies s (oamCopy src n i s) := by
  induction n generalizing i s with
  | zero => rfl
  | succ n ih => exact sameButCopies_trans (sameButCopies_trans (sameButCopies_busRead s _) (sameButCopies_writeCell _ _ _ _)) (ih (i + 1) _)

theorem sameButCopies_vramCopy (src dst : Word) (n i : Nat) (s : State) : sameButCopies s (vramCopy src dst n i s) := by
  induction n generalizing i s with
  | zero => rfl
  | succ n ih => exact sameButCopies_trans (sameButCopies_trans (sameButCopies_busRead s _) (sameButCopies_writeCell _ _ _ _)) (ih (i + 1) _)

theorem sameButCopies_hdmaWriteBack (s : State) (src dst : Word) : sameButCopies s (hdmaWriteBack s src dst) :=
  sameButCopies_trans (sameButCopies_trans (sameButCopies_trans (sameButCopies_writeIo _ _ _) (sameButCopies_writeIo _ _ _))
    (sameButCopies_writeIo _ _ _)) (sameButCopies_writeIo _ _ _)

theorem sameButCopies_hdmaBlock (s : State) : sameButCopies s (hdmaBlock s) :=
  sameButCopies_trans (sameButCopies_vramCopy (hdmaSrc s) (hdmaDst s) 16 0 s) (sameButCopies_hdmaWriteBack _ _ _)

theorem sameButCopies_hdmaBlocks (n : Nat) (s : State) : sameButCopies s (hdmaBlocks n s) := by
  induction n generalizing s with
  | zero => rfl
  | succ n ih => exact sameButCopies_trans (sameButCopies_hdmaBlock s) (ih _)

/-- A copy to OAM changes the bytes of OAM that it copies, and no other byte of memory. -/
theorem readCell_oamCopy (src : Word) (n i : Nat) (s : State) {r : Region} {k : Nat} (h : ¬ (r = .oam ∧ i ≤ k ∧ k < i + n)) :
    readCell (oamCopy src n i s) r k = readCell s r k := by
  induction n generalizing i s with
  | zero => rfl
  | succ n ih =>
    rw [oamCopy, ih _ _ fun g => h ⟨g.1, by omega, by omega⟩, readCell_writeCell,
      if_neg fun g => h ⟨g.1, by omega, by omega⟩, readCell_busRead]

/-- A copy to Video RAM changes no byte of another memory. -/
theorem readCell_vramCopy (src dst : Word) (n i : Nat) (s : State) {r : Region} {k : Nat} (h : r ≠ .vram) :
    readCell (vramCopy src dst n i s) r k = readCell s r k := by
  induction n generalizing i s with
  | zero => rfl
  | succ n ih => rw [vramCopy, ih, readCell_writeCell, if_neg fun g => h g.1, readCell_busRead]

/-- HDMA blocks change Video RAM, the address registers 0x51 to 0x54, and no other byte of memory. -/
theorem readCell_hdmaBlock (s : State) {r : Region} {k : Nat} (h : r ≠ .vram) (g : ¬ (r = .io ∧ 0x51 ≤ k ∧ k ≤ 0x54)) :
    readCell (hdmaBlock s) r k = readCell s r k := by
  have hc := readCell_vramCopy (hdmaSrc s) (hdmaDst s) 16 0 s (k := k) h
  unfold hdmaBlock hdmaWriteBack writeIo
  rw [← hc]
  generalize vramCopy (hdmaSrc s) (hdmaDst s) 16 0 s = t
  rw [readCell_writeCell, if_neg fun q => g ⟨q.1, by omega, by omega⟩, readCell_writeCell,
    if_neg fun q => g ⟨q.1, by omega, by omega⟩, readCell_writeCell, if_neg fun q => g ⟨q.1, by omega, by omega⟩,
    readCell_writeCell, if_neg fun q => g ⟨q.1, by omega, by omega⟩]

theorem readCell_hdmaBlocks (n : Nat) (s : State) {r : Region} {k : Nat} (h : r ≠ .vram)
    (g : ¬ (r = .io ∧ 0x51 ≤ k ∧ k ≤ 0x54)) : readCell (hdmaBlocks n s) r k = readCell s r k := by
  induction n generalizing s with
  | zero => rfl
  | succ n ih => rw [hdmaBlocks, ih, readCell_hdmaBlock s h g]

/-! What an address resolves to. -/

theorem romWindow_ne_rtc (s : State) (n i : Nat) : romWindow s n ≠ .rtc i := by
  unfold romWindow; dsimp only; split <;> simp

theorem wramPlace_ne_rtc (s : State) (n i : Nat) : wramPlace s n ≠ .rtc i := by unfold wramPlace; split <;> simp

theorem cramCell_ne_rtc (s : State) (n i : Nat) : cramCell s n ≠ .rtc i := by unfold cramCell; split <;> simp

/-- An address resolves to no RTC register but the five of R174. -/
theorem route_rtc_lt {s : State} {a : Word} {i : Nat} (h : route s a = .rtc i) : i < 5 := by
  unfold route at h
  dsimp only at h
  split at h
  · cases h
  split at h
  · exact absurd h (romWindow_ne_rtc _ _ _)
  split at h
  · cases h
  split at h
  · unfold cartRamPlace at h
    dsimp only at h
    split at h
    · exact absurd h (cramCell_ne_rtc _ _ _)
    · split at h
      exacts [absurd h (cramCell_ne_rtc _ _ _), by cases h]
    · split at h
      exacts [absurd h (cramCell_ne_rtc _ _ _), by cases h]
    · split at h
      · split at h <;> cases h
      · cases h
    · split at h
      · split at h
        · exact absurd h (cramCell_ne_rtc _ _ _)
        · split at h
          · cases h; omega
          · cases h
      · cases h
  split at h
  · exact absurd h (wramPlace_ne_rtc _ _ _)
  split at h
  · exact absurd h (wramPlace_ne_rtc _ _ _)
  split at h
  · cases h
  split at h <;> cases h

/-! The stack, in terms of bus accesses. -/

theorem setPair_sp (s : State) (w : Word) : setPair s .sp w = { s with regs := { s.regs with sp := w } } := rfl

theorem word_sub_two (w : Word) : w - 1 - 1 = w - 2 := by rw [BitVec.sub_sub]; rfl

theorem word_add_two (w : Word) : w + 1 + 1 = w + 2 := by rw [BitVec.add_assoc]; rfl

/-- R285: two bus writes, the high byte first, and SP two lower. -/
theorem push16_flat (s : State) (w : Word) :
    push16 s w =
      { busWrite (busWrite s (s.regs.sp - 1) (hiByte w)) (s.regs.sp - 2) (loByte w) with
        regs := { s.regs with sp := s.regs.sp - 2 } } := by
  rw [push16_eq]
  simp only [setPair_sp, busWrite_withRegs, word_sub_two]

/-- R286: two bus reads, the low byte first, and SP two higher. -/
theorem pop16_flat (s : State) :
    pop16 s =
      (joinBytes (busRead (busRead s s.regs.sp).2 (s.regs.sp + 1)).1 (busRead s s.regs.sp).1,
        { (busRead (busRead s s.regs.sp).2 (s.regs.sp + 1)).2 with regs := { s.regs with sp := s.regs.sp + 2 } }) := by
  rw [pop16_eq]
  simp only [setPair_sp, busRead_withRegs, word_add_two, busRead_regs]

/-! Writing a result back. -/

theorem flagsOf_writeFlags (f : Byte) (o : FlagOut) :
    flagsOf (writeFlags f o) =
      (o.z.getD (zFlag f), o.n.getD (nFlag f), o.h.getD (hFlag f), o.c.getD (cFlag f)) := by
  simp [flagsOf]

theorem readSrc_regs (s : State) (x : Src) : (readSrc s x).2.regs = s.regs := by cases x <;> simp [readSrc]

theorem readSrc_fst (s : State) (x : Src) : (readSrc s x).1 = srcValue s x := by cases x <;> rfl

theorem readTarget_regs (s : State) (t : Target) : (readTarget s t).2.regs = s.regs := by cases t <;> simp [readTarget]

theorem readTarget_fst (s : State) (t : Target) : (readTarget s t).1 = targetValue s t := by cases t <;> rfl

/-- An accumulator operation: A, the flags, and nothing else (R290). -/
theorem accumulator_written (s : State) (x : Src) (r : Byte) (o : FlagOut) :
    let t := setFlags (setReg8 (readSrc s x).2 .a r) o
    t.regs.a = r ∧
      flagsOf t.regs.f =
        (o.z.getD (zFlag s.regs.f), o.n.getD (nFlag s.regs.f), o.h.getD (hFlag s.regs.f), o.c.getD (cFlag s.regs.f)) ∧
      onlyAccumulator s t ∧ sameButRegs (srcState s x) t ∧ cellsSame s t := by
  intro t
  have ht : t.regs = { s.regs with a := r, f := writeFlags s.regs.f o } := by simp [t, readSrc_regs, Regs.set8]
  rw [ht]
  refine ⟨rfl, flagsOf_writeFlags _ _, ⟨by rw [ht], ?_⟩, ⟨?_, ?_⟩, ?_⟩
  · unfold lowNibbleSame; rw [ht]; exact writeFlags_low _ _
  · cases x <;> rfl
  · cases x <;> exact fun _ _ => rfl
  · cases x
    · exact fun _ _ => rfl
    · intro q k; show readCell (busRead s s.hl).2 q k = _; simp
    · exact fun _ _ => rfl

/-- What an accumulator operation computes, on the old A and the operand. -/
theorem opAcc_eq (fn : Byte → Byte → Bool → Byte × FlagOut) (s : State) (x : Src) :
    opAcc fn x s =
      .next (setFlags (setReg8 (readSrc s x).2 .a (fn s.regs.a (srcValue s x) (cFlag s.regs.f)).1)
        (fn s.regs.a (srcValue s x) (cFlag s.regs.f)).2) := by
  simp only [opAcc, readSrc_regs, readSrc_fst]

/-- `CP` is such an operation that writes the old A back. -/
theorem opCp_eq (s : State) (x : Src) :
    opCp x s =
      .next (setFlags (setReg8 (readSrc s x).2 .a s.regs.a) (sub8 s.regs.a (srcValue s x) false).2) := by
  have h : setReg8 (readSrc s x).2 .a s.regs.a = (readSrc s x).2 := by rw [← readSrc_regs s x]; rfl
  rw [h]
  simp only [opCp, readSrc_regs, readSrc_fst]

/-- `r` and the flags written back to an operand that was read (R324). -/
theorem target_written (s : State) (t : Target) (r : Byte) (o : FlagOut)
    (hw : ∀ u : State, writeFrame u s.hl r (busWrite u s.hl r)) :
    let u := writeTarget (setFlags (readTarget s t).2 o) t r
    flagsOf u.regs.f =
        (o.z.getD (zFlag s.regs.f), o.n.getD (nFlag s.regs.f), o.h.getD (hFlag s.regs.f), o.c.getD (cFlag s.regs.f)) ∧
      lowNibbleSame s u ∧ u = targetWritten s u.regs.f t r ∧ targetFrame s t r u := by
  intro u
  cases t with
  | reg x =>
    have hf : u.regs.f = writeFlags s.regs.f o := by cases x <;> rfl
    refine ⟨by rw [hf]; exact flagsOf_writeFlags _ _, by unfold lowNibbleSame; rw [hf]; exact writeFlags_low _ _, ?_, ?_, ?_⟩
    · rw [hf]; rfl
    · rw [hf]; rfl
    · rfl
  | memHL =>
    have e : u = { busWrite (busRead s s.hl).2 s.hl r with regs := { s.regs with f := writeFlags s.regs.f o } } := by
      show busWrite { (busRead s s.hl).2 with
        regs := { (busRead s s.hl).2.regs with f := writeFlags (busRead s s.hl).2.regs.f o } }
          ((setFlags (busRead s s.hl).2 o).hl) r = _
      rw [busWrite_withRegs]
      simp [State.hl, Regs.get16]
    rw [e]
    refine ⟨flagsOf_writeFlags _ _, writeFlags_low _ _, rfl, rfl, ?_⟩
    have g : ({ busWrite (busRead s s.hl).2 s.hl r with regs := s.regs } : State) = busWrite (busRead s s.hl).2 s.hl r := by
      have h : (busWrite (busRead s s.hl).2 s.hl r).regs = s.regs := by simp
      rw [← h]
    show writeFrame _ _ _ { busWrite (busRead s s.hl).2 s.hl r with regs := s.regs }
    rw [g]; exact hw _

/-- A register written: that one, and nothing else. -/
theorem onlyReg8_setReg8 (s : State) {u : State} (r : Reg8) (v : Byte) (h : u.regs = s.regs) :
    onlyReg8 s (setReg8 u r v) r v := by
  unfold onlyReg8
  rw [← h]
  refine ⟨by cases r <;> rfl, ?_, by cases r <;> rfl, by cases r <;> rfl, by cases r <;> rfl⟩
  intro x hx
  cases r <;> cases x <;> first | rfl | exact absurd rfl hx

theorem sameButRegs_setReg8 (s : State) (r : Reg8) (v : Byte) : sameButRegs s (setReg8 s r v) := ⟨rfl, fun _ _ => rfl⟩

/-- A pair written: that one, and nothing else; a write of AF is masked (R23). -/
theorem onlyPair_setPair (s : State) (p : Pair) (w : Word) :
    onlyPair s (setPair s p w) p (if p = .af then w &&& 0xFFF0 else w) ∧ sameButRegs s (setPair s p w) := by
  refine ⟨?_, rfl, fun _ _ => rfl⟩
  cases p
  case af => exact ⟨get16_set16_af _ _, rfl⟩
  all_goals first | exact ⟨joinBytes_hi_lo w, rfl⟩ | exact ⟨rfl, rfl⟩

theorem condTrue_iff (f : Byte) (cc : Cond) : condTrue f cc ↔ condHolds f cc = true := by
  cases cc <;> simp [condTrue, condHolds]

end Sys2Proof.Machine
end

