-- ==== Sys2Proof/Laws/Parameters.lean ====
section
/-! SUPPORT. The table that holds the parameter `STAT_MODE` shuts out no function that the parameter could be. -/

namespace Sys2Proof.Machine

theorem statMode_nil (pos h : Nat) : statMode [] pos h = statModeDefault pos h := rfl

theorem statMode_cons (c : StatCell) (t : StatTable) (pos h : Nat) :
    statMode (c :: t) pos h = if c.pos = pos ∧ c.h = h then c.mode else statMode t pos h := by
  show (if c.pos = pos ∧ c.h = h then some c.mode else StatTable.lookup t pos h).getD _ = _
  split <;> rfl

/-- R6, R114: every function to {0, 2, 3} on finitely many places in a line (a line has 60 or 120) is held by some table. -/
theorem statMode_every (f : Nat → Nat → VisibleMode) (places : List (Nat × Nat)) :
    ∃ t : StatTable, ∀ p ∈ places, statMode t p.1 p.2 = f p.1 p.2 := by
  induction places with
  | nil => exact ⟨[], by simp⟩
  | cons q ps ih =>
    obtain ⟨t, ht⟩ := ih
    refine ⟨⟨q.1, q.2, f q.1 q.2⟩ :: t, fun p hp => ?_⟩
    rw [statMode_cons]
    split
    · rename_i e; show f q.1 q.2 = _; rw [show q.1 = p.1 from e.1, show q.2 = p.2 from e.2]
    · rename_i e
      exact ht p ((List.mem_cons.1 hp).resolve_left fun h => e ⟨h ▸ rfl, h ▸ rfl⟩)

end Sys2Proof.Machine
end

