-- ==== Sys2Proof/Laws/PerInstr.lean ====
section
/-! SUPPORT. Per-instruction laws: family `EncodedForm`, one lemma per constructor of `Instr`. -/

namespace Sys2Proof.Laws.EncodedForm

/-- The bytes of `i` have the shape of one instruction (R200, R203), and as many of them as R207 gives their first byte. -/
def Statement (i : Instr) : Prop :=
  codeWellFormed (encode i) = true ∧ ∃ op rest, encode i = op :: rest ∧ (encode i).length = instrLength op

theorem nop : Statement .nop := ⟨rfl, _, _, rfl, rfl⟩
theorem ldBCNn (nn : Word) : Statement (.ldBCNn nn) := ⟨rfl, _, _, rfl, rfl⟩
theorem ldMemBCA : Statement .ldMemBCA := ⟨rfl, _, _, rfl, rfl⟩
theorem incBC : Statement .incBC := ⟨rfl, _, _, rfl, rfl⟩
theorem incB : Statement .incB := ⟨rfl, _, _, rfl, rfl⟩
theorem decB : Statement .decB := ⟨rfl, _, _, rfl, rfl⟩
theorem ldBN (n : Byte) : Statement (.ldBN n) := ⟨rfl, _, _, rfl, rfl⟩
theorem rlca : Statement .rlca := ⟨rfl, _, _, rfl, rfl⟩
theorem ldMemNnSP (nn : Word) : Statement (.ldMemNnSP nn) := ⟨rfl, _, _, rfl, rfl⟩
theorem addHLBC : Statement .addHLBC := ⟨rfl, _, _, rfl, rfl⟩
theorem ldAMemBC : Statement .ldAMemBC := ⟨rfl, _, _, rfl, rfl⟩
theorem decBC : Statement .decBC := ⟨rfl, _, _, rfl, rfl⟩
theorem incC : Statement .incC := ⟨rfl, _, _, rfl, rfl⟩
theorem decC : Statement .decC := ⟨rfl, _, _, rfl, rfl⟩
theorem ldCN (n : Byte) : Statement (.ldCN n) := ⟨rfl, _, _, rfl, rfl⟩
theorem rrca : Statement .rrca := ⟨rfl, _, _, rfl, rfl⟩
theorem stop (skip : Byte) : Statement (.stop skip) := ⟨rfl, _, _, rfl, rfl⟩
theorem ldDENn (nn : Word) : Statement (.ldDENn nn) := ⟨rfl, _, _, rfl, rfl⟩
theorem ldMemDEA : Statement .ldMemDEA := ⟨rfl, _, _, rfl, rfl⟩
theorem incDE : Statement .incDE := ⟨rfl, _, _, rfl, rfl⟩
theorem incD : Statement .incD := ⟨rfl, _, _, rfl, rfl⟩
theorem decD : Statement .decD := ⟨rfl, _, _, rfl, rfl⟩
theorem ldDN (n : Byte) : Statement (.ldDN n) := ⟨rfl, _, _, rfl, rfl⟩
theorem rla : Statement .rla := ⟨rfl, _, _, rfl, rfl⟩
theorem jrE (e : Byte) : Statement (.jrE e) := ⟨rfl, _, _, rfl, rfl⟩
theorem addHLDE : Statement .addHLDE := ⟨rfl, _, _, rfl, rfl⟩
theorem ldAMemDE : Statement .ldAMemDE := ⟨rfl, _, _, rfl, rfl⟩
theorem decDE : Statement .decDE := ⟨rfl, _, _, rfl, rfl⟩
theorem incE : Statement .incE := ⟨rfl, _, _, rfl, rfl⟩
theorem decE : Statement .decE := ⟨rfl, _, _, rfl, rfl⟩
theorem ldEN (n : Byte) : Statement (.ldEN n) := ⟨rfl, _, _, rfl, rfl⟩
theorem rra : Statement .rra := ⟨rfl, _, _, rfl, rfl⟩
theorem jrNZE (e : Byte) : Statement (.jrNZE e) := ⟨rfl, _, _, rfl, rfl⟩
theorem ldHLNn (nn : Word) : Statement (.ldHLNn nn) := ⟨rfl, _, _, rfl, rfl⟩
theorem ldMemHLIncA : Statement .ldMemHLIncA := ⟨rfl, _, _, rfl, rfl⟩
theorem incHL : Statement .incHL := ⟨rfl, _, _, rfl, rfl⟩
theorem incH : Statement .incH := ⟨rfl, _, _, rfl, rfl⟩
theorem decH : Statement .decH := ⟨rfl, _, _, rfl, rfl⟩
theorem ldHN (n : Byte) : Statement (.ldHN n) := ⟨rfl, _, _, rfl, rfl⟩
theorem daa : Statement .daa := ⟨rfl, _, _, rfl, rfl⟩
theorem jrZE (e : Byte) : Statement (.jrZE e) := ⟨rfl, _, _, rfl, rfl⟩
theorem addHLHL : Statement .addHLHL := ⟨rfl, _, _, rfl, rfl⟩
theorem ldAMemHLInc : Statement .ldAMemHLInc := ⟨rfl, _, _, rfl, rfl⟩
theorem decHL : Statement .decHL := ⟨rfl, _, _, rfl, rfl⟩
theorem incL : Statement .incL := ⟨rfl, _, _, rfl, rfl⟩
theorem decL : Statement .decL := ⟨rfl, _, _, rfl, rfl⟩
theorem ldLN (n : Byte) : Statement (.ldLN n) := ⟨rfl, _, _, rfl, rfl⟩
theorem cpl : Statement .cpl := ⟨rfl, _, _, rfl, rfl⟩
theorem jrNCE (e : Byte) : Statement (.jrNCE e) := ⟨rfl, _, _, rfl, rfl⟩
theorem ldSPNn (nn : Word) : Statement (.ldSPNn nn) := ⟨rfl, _, _, rfl, rfl⟩
theorem ldMemHLDecA : Statement .ldMemHLDecA := ⟨rfl, _, _, rfl, rfl⟩
theorem incSP : Statement .incSP := ⟨rfl, _, _, rfl, rfl⟩
theorem incMemHL : Statement .incMemHL := ⟨rfl, _, _, rfl, rfl⟩
theorem decMemHL : Statement .decMemHL := ⟨rfl, _, _, rfl, rfl⟩
theorem ldMemHLN (n : Byte) : Statement (.ldMemHLN n) := ⟨rfl, _, _, rfl, rfl⟩
theorem scf : Statement .scf := ⟨rfl, _, _, rfl, rfl⟩
theorem jrCE (e : Byte) : Statement (.jrCE e) := ⟨rfl, _, _, rfl, rfl⟩
theorem addHLSP : Statement .addHLSP := ⟨rfl, _, _, rfl, rfl⟩
theorem ldAMemHLDec : Statement .ldAMemHLDec := ⟨rfl, _, _, rfl, rfl⟩
theorem decSP : Statement .decSP := ⟨rfl, _, _, rfl, rfl⟩
theorem incA : Statement .incA := ⟨rfl, _, _, rfl, rfl⟩
theorem decA : Statement .decA := ⟨rfl, _, _, rfl, rfl⟩
theorem ldAN (n : Byte) : Statement (.ldAN n) := ⟨rfl, _, _, rfl, rfl⟩
theorem ccf : Statement .ccf := ⟨rfl, _, _, rfl, rfl⟩
theorem ldBB : Statement .ldBB := ⟨rfl, _, _, rfl, rfl⟩
theorem ldBC : Statement .ldBC := ⟨rfl, _, _, rfl, rfl⟩
theorem ldBD : Statement .ldBD := ⟨rfl, _, _, rfl, rfl⟩
theorem ldBE : Statement .ldBE := ⟨rfl, _, _, rfl, rfl⟩
theorem ldBH : Statement .ldBH := ⟨rfl, _, _, rfl, rfl⟩
theorem ldBL : Statement .ldBL := ⟨rfl, _, _, rfl, rfl⟩
theorem ldBMemHL : Statement .ldBMemHL := ⟨rfl, _, _, rfl, rfl⟩
theorem ldBA : Statement .ldBA := ⟨rfl, _, _, rfl, rfl⟩
theorem ldCB : Statement .ldCB := ⟨rfl, _, _, rfl, rfl⟩
theorem ldCC : Statement .ldCC := ⟨rfl, _, _, rfl, rfl⟩
theorem ldCD : Statement .ldCD := ⟨rfl, _, _, rfl, rfl⟩
theorem ldCE : Statement .ldCE := ⟨rfl, _, _, rfl, rfl⟩
theorem ldCH : Statement .ldCH := ⟨rfl, _, _, rfl, rfl⟩
theorem ldCL : Statement .ldCL := ⟨rfl, _, _, rfl, rfl⟩
theorem ldCMemHL : Statement .ldCMemHL := ⟨rfl, _, _, rfl, rfl⟩
theorem ldCA : Statement .ldCA := ⟨rfl, _, _, rfl, rfl⟩
theorem ldDB : Statement .ldDB := ⟨rfl, _, _, rfl, rfl⟩
theorem ldDC : Statement .ldDC := ⟨rfl, _, _, rfl, rfl⟩
theorem ldDD : Statement .ldDD := ⟨rfl, _, _, rfl, rfl⟩
theorem ldDE : Statement .ldDE := ⟨rfl, _, _, rfl, rfl⟩
theorem ldDH : Statement .ldDH := ⟨rfl, _, _, rfl, rfl⟩
theorem ldDL : Statement .ldDL := ⟨rfl, _, _, rfl, rfl⟩
theorem ldDMemHL : Statement .ldDMemHL := ⟨rfl, _, _, rfl, rfl⟩
theorem ldDA : Statement .ldDA := ⟨rfl, _, _, rfl, rfl⟩
theorem ldEB : Statement .ldEB := ⟨rfl, _, _, rfl, rfl⟩
theorem ldEC : Statement .ldEC := ⟨rfl, _, _, rfl, rfl⟩
theorem ldED : Statement .ldED := ⟨rfl, _, _, rfl, rfl⟩
theorem ldEE : Statement .ldEE := ⟨rfl, _, _, rfl, rfl⟩
theorem ldEH : Statement .ldEH := ⟨rfl, _, _, rfl, rfl⟩
theorem ldEL : Statement .ldEL := ⟨rfl, _, _, rfl, rfl⟩
theorem ldEMemHL : Statement .ldEMemHL := ⟨rfl, _, _, rfl, rfl⟩
theorem ldEA : Statement .ldEA := ⟨rfl, _, _, rfl, rfl⟩
theorem ldHB : Statement .ldHB := ⟨rfl, _, _, rfl, rfl⟩
theorem ldHC : Statement .ldHC := ⟨rfl, _, _, rfl, rfl⟩
theorem ldHD : Statement .ldHD := ⟨rfl, _, _, rfl, rfl⟩
theorem ldHE : Statement .ldHE := ⟨rfl, _, _, rfl, rfl⟩
theorem ldHH : Statement .ldHH := ⟨rfl, _, _, rfl, rfl⟩
theorem ldHL : Statement .ldHL := ⟨rfl, _, _, rfl, rfl⟩
theorem ldHMemHL : Statement .ldHMemHL := ⟨rfl, _, _, rfl, rfl⟩
theorem ldHA : Statement .ldHA := ⟨rfl, _, _, rfl, rfl⟩
theorem ldLB : Statement .ldLB := ⟨rfl, _, _, rfl, rfl⟩
theorem ldLC : Statement .ldLC := ⟨rfl, _, _, rfl, rfl⟩
theorem ldLD : Statement .ldLD := ⟨rfl, _, _, rfl, rfl⟩
theorem ldLE : Statement .ldLE := ⟨rfl, _, _, rfl, rfl⟩
theorem ldLH : Statement .ldLH := ⟨rfl, _, _, rfl, rfl⟩
theorem ldLL : Statement .ldLL := ⟨rfl, _, _, rfl, rfl⟩
theorem ldLMemHL : Statement .ldLMemHL := ⟨rfl, _, _, rfl, rfl⟩
theorem ldLA : Statement .ldLA := ⟨rfl, _, _, rfl, rfl⟩
theorem ldMemHLB : Statement .ldMemHLB := ⟨rfl, _, _, rfl, rfl⟩
theorem ldMemHLC : Statement .ldMemHLC := ⟨rfl, _, _, rfl, rfl⟩
theorem ldMemHLD : Statement .ldMemHLD := ⟨rfl, _, _, rfl, rfl⟩
theorem ldMemHLE : Statement .ldMemHLE := ⟨rfl, _, _, rfl, rfl⟩
theorem ldMemHLH : Statement .ldMemHLH := ⟨rfl, _, _, rfl, rfl⟩
theorem ldMemHLL : Statement .ldMemHLL := ⟨rfl, _, _, rfl, rfl⟩
theorem halt : Statement .halt := ⟨rfl, _, _, rfl, rfl⟩
theorem ldMemHLA : Statement .ldMemHLA := ⟨rfl, _, _, rfl, rfl⟩
theorem ldAB : Statement .ldAB := ⟨rfl, _, _, rfl, rfl⟩
theorem ldAC : Statement .ldAC := ⟨rfl, _, _, rfl, rfl⟩
theorem ldAD : Statement .ldAD := ⟨rfl, _, _, rfl, rfl⟩
theorem ldAE : Statement .ldAE := ⟨rfl, _, _, rfl, rfl⟩
theorem ldAH : Statement .ldAH := ⟨rfl, _, _, rfl, rfl⟩
theorem ldAL : Statement .ldAL := ⟨rfl, _, _, rfl, rfl⟩
theorem ldAMemHL : Statement .ldAMemHL := ⟨rfl, _, _, rfl, rfl⟩
theorem ldAA : Statement .ldAA := ⟨rfl, _, _, rfl, rfl⟩
theorem addAB : Statement .addAB := ⟨rfl, _, _, rfl, rfl⟩
theorem addAC : Statement .addAC := ⟨rfl, _, _, rfl, rfl⟩
theorem addAD : Statement .addAD := ⟨rfl, _, _, rfl, rfl⟩
theorem addAE : Statement .addAE := ⟨rfl, _, _, rfl, rfl⟩
theorem addAH : Statement .addAH := ⟨rfl, _, _, rfl, rfl⟩
theorem addAL : Statement .addAL := ⟨rfl, _, _, rfl, rfl⟩
theorem addAMemHL : Statement .addAMemHL := ⟨rfl, _, _, rfl, rfl⟩
theorem addAA : Statement .addAA := ⟨rfl, _, _, rfl, rfl⟩
theorem adcAB : Statement .adcAB := ⟨rfl, _, _, rfl, rfl⟩
theorem adcAC : Statement .adcAC := ⟨rfl, _, _, rfl, rfl⟩
theorem adcAD : Statement .adcAD := ⟨rfl, _, _, rfl, rfl⟩
theorem adcAE : Statement .adcAE := ⟨rfl, _, _, rfl, rfl⟩
theorem adcAH : Statement .adcAH := ⟨rfl, _, _, rfl, rfl⟩
theorem adcAL : Statement .adcAL := ⟨rfl, _, _, rfl, rfl⟩
theorem adcAMemHL : Statement .adcAMemHL := ⟨rfl, _, _, rfl, rfl⟩
theorem adcAA : Statement .adcAA := ⟨rfl, _, _, rfl, rfl⟩
theorem subAB : Statement .subAB := ⟨rfl, _, _, rfl, rfl⟩
theorem subAC : Statement .subAC := ⟨rfl, _, _, rfl, rfl⟩
theorem subAD : Statement .subAD := ⟨rfl, _, _, rfl, rfl⟩
theorem subAE : Statement .subAE := ⟨rfl, _, _, rfl, rfl⟩
theorem subAH : Statement .subAH := ⟨rfl, _, _, rfl, rfl⟩
theorem subAL : Statement .subAL := ⟨rfl, _, _, rfl, rfl⟩
theorem subAMemHL : Statement .subAMemHL := ⟨rfl, _, _, rfl, rfl⟩
theorem subAA : Statement .subAA := ⟨rfl, _, _, rfl, rfl⟩
theorem sbcAB : Statement .sbcAB := ⟨rfl, _, _, rfl, rfl⟩
theorem sbcAC : Statement .sbcAC := ⟨rfl, _, _, rfl, rfl⟩
theorem sbcAD : Statement .sbcAD := ⟨rfl, _, _, rfl, rfl⟩
theorem sbcAE : Statement .sbcAE := ⟨rfl, _, _, rfl, rfl⟩
theorem sbcAH : Statement .sbcAH := ⟨rfl, _, _, rfl, rfl⟩
theorem sbcAL : Statement .sbcAL := ⟨rfl, _, _, rfl, rfl⟩
theorem sbcAMemHL : Statement .sbcAMemHL := ⟨rfl, _, _, rfl, rfl⟩
theorem sbcAA : Statement .sbcAA := ⟨rfl, _, _, rfl, rfl⟩
theorem andAB : Statement .andAB := ⟨rfl, _, _, rfl, rfl⟩
theorem andAC : Statement .andAC := ⟨rfl, _, _, rfl, rfl⟩
theorem andAD : Statement .andAD := ⟨rfl, _, _, rfl, rfl⟩
theorem andAE : Statement .andAE := ⟨rfl, _, _, rfl, rfl⟩
theorem andAH : Statement .andAH := ⟨rfl, _, _, rfl, rfl⟩
theorem andAL : Statement .andAL := ⟨rfl, _, _, rfl, rfl⟩
theorem andAMemHL : Statement .andAMemHL := ⟨rfl, _, _, rfl, rfl⟩
theorem andAA : Statement .andAA := ⟨rfl, _, _, rfl, rfl⟩
theorem xorAB : Statement .xorAB := ⟨rfl, _, _, rfl, rfl⟩
theorem xorAC : Statement .xorAC := ⟨rfl, _, _, rfl, rfl⟩
theorem xorAD : Statement .xorAD := ⟨rfl, _, _, rfl, rfl⟩
theorem xorAE : Statement .xorAE := ⟨rfl, _, _, rfl, rfl⟩
theorem xorAH : Statement .xorAH := ⟨rfl, _, _, rfl, rfl⟩
theorem xorAL : Statement .xorAL := ⟨rfl, _, _, rfl, rfl⟩
theorem xorAMemHL : Statement .xorAMemHL := ⟨rfl, _, _, rfl, rfl⟩
theorem xorAA : Statement .xorAA := ⟨rfl, _, _, rfl, rfl⟩
theorem orAB : Statement .orAB := ⟨rfl, _, _, rfl, rfl⟩
theorem orAC : Statement .orAC := ⟨rfl, _, _, rfl, rfl⟩
theorem orAD : Statement .orAD := ⟨rfl, _, _, rfl, rfl⟩
theorem orAE : Statement .orAE := ⟨rfl, _, _, rfl, rfl⟩
theorem orAH : Statement .orAH := ⟨rfl, _, _, rfl, rfl⟩
theorem orAL : Statement .orAL := ⟨rfl, _, _, rfl, rfl⟩
theorem orAMemHL : Statement .orAMemHL := ⟨rfl, _, _, rfl, rfl⟩
theorem orAA : Statement .orAA := ⟨rfl, _, _, rfl, rfl⟩
theorem cpAB : Statement .cpAB := ⟨rfl, _, _, rfl, rfl⟩
theorem cpAC : Statement .cpAC := ⟨rfl, _, _, rfl, rfl⟩
theorem cpAD : Statement .cpAD := ⟨rfl, _, _, rfl, rfl⟩
theorem cpAE : Statement .cpAE := ⟨rfl, _, _, rfl, rfl⟩
theorem cpAH : Statement .cpAH := ⟨rfl, _, _, rfl, rfl⟩
theorem cpAL : Statement .cpAL := ⟨rfl, _, _, rfl, rfl⟩
theorem cpAMemHL : Statement .cpAMemHL := ⟨rfl, _, _, rfl, rfl⟩
theorem cpAA : Statement .cpAA := ⟨rfl, _, _, rfl, rfl⟩
theorem retNZ : Statement .retNZ := ⟨rfl, _, _, rfl, rfl⟩
theorem popBC : Statement .popBC := ⟨rfl, _, _, rfl, rfl⟩
theorem jpNZNn (nn : Word) : Statement (.jpNZNn nn) := ⟨rfl, _, _, rfl, rfl⟩
theorem jpNn (nn : Word) : Statement (.jpNn nn) := ⟨rfl, _, _, rfl, rfl⟩
theorem callNZNn (nn : Word) : Statement (.callNZNn nn) := ⟨rfl, _, _, rfl, rfl⟩
theorem pushBC : Statement .pushBC := ⟨rfl, _, _, rfl, rfl⟩
theorem addAN (n : Byte) : Statement (.addAN n) := ⟨rfl, _, _, rfl, rfl⟩
theorem rst00 : Statement .rst00 := ⟨rfl, _, _, rfl, rfl⟩
theorem retZ : Statement .retZ := ⟨rfl, _, _, rfl, rfl⟩
theorem ret : Statement .ret := ⟨rfl, _, _, rfl, rfl⟩
theorem jpZNn (nn : Word) : Statement (.jpZNn nn) := ⟨rfl, _, _, rfl, rfl⟩
theorem callZNn (nn : Word) : Statement (.callZNn nn) := ⟨rfl, _, _, rfl, rfl⟩
theorem callNn (nn : Word) : Statement (.callNn nn) := ⟨rfl, _, _, rfl, rfl⟩
theorem adcAN (n : Byte) : Statement (.adcAN n) := ⟨rfl, _, _, rfl, rfl⟩
theorem rst08 : Statement .rst08 := ⟨rfl, _, _, rfl, rfl⟩
theorem retNC : Statement .retNC := ⟨rfl, _, _, rfl, rfl⟩
theorem popDE : Statement .popDE := ⟨rfl, _, _, rfl, rfl⟩
theorem jpNCNn (nn : Word) : Statement (.jpNCNn nn) := ⟨rfl, _, _, rfl, rfl⟩
theorem illegalD3 : Statement .illegalD3 := ⟨rfl, _, _, rfl, rfl⟩
theorem callNCNn (nn : Word) : Statement (.callNCNn nn) := ⟨rfl, _, _, rfl, rfl⟩
theorem pushDE : Statement .pushDE := ⟨rfl, _, _, rfl, rfl⟩
theorem subAN (n : Byte) : Statement (.subAN n) := ⟨rfl, _, _, rfl, rfl⟩
theorem rst10 : Statement .rst10 := ⟨rfl, _, _, rfl, rfl⟩
theorem retC : Statement .retC := ⟨rfl, _, _, rfl, rfl⟩
theorem reti : Statement .reti := ⟨rfl, _, _, rfl, rfl⟩
theorem jpCNn (nn : Word) : Statement (.jpCNn nn) := ⟨rfl, _, _, rfl, rfl⟩
theorem illegalDB : Statement .illegalDB := ⟨rfl, _, _, rfl, rfl⟩
theorem callCNn (nn : Word) : Statement (.callCNn nn) := ⟨rfl, _, _, rfl, rfl⟩
theorem illegalDD : Statement .illegalDD := ⟨rfl, _, _, rfl, rfl⟩
theorem sbcAN (n : Byte) : Statement (.sbcAN n) := ⟨rfl, _, _, rfl, rfl⟩
theorem rst18 : Statement .rst18 := ⟨rfl, _, _, rfl, rfl⟩
theorem ldhMemNA (n : Byte) : Statement (.ldhMemNA n) := ⟨rfl, _, _, rfl, rfl⟩
theorem popHL : Statement .popHL := ⟨rfl, _, _, rfl, rfl⟩
theorem ldhMemCA : Statement .ldhMemCA := ⟨rfl, _, _, rfl, rfl⟩
theorem illegalE3 : Statement .illegalE3 := ⟨rfl, _, _, rfl, rfl⟩
theorem illegalE4 : Statement .illegalE4 := ⟨rfl, _, _, rfl, rfl⟩
theorem pushHL : Statement .pushHL := ⟨rfl, _, _, rfl, rfl⟩
theorem andAN (n : Byte) : Statement (.andAN n) := ⟨rfl, _, _, rfl, rfl⟩
theorem rst20 : Statement .rst20 := ⟨rfl, _, _, rfl, rfl⟩
theorem addSPE (e : Byte) : Statement (.addSPE e) := ⟨rfl, _, _, rfl, rfl⟩
theorem jpHL : Statement .jpHL := ⟨rfl, _, _, rfl, rfl⟩
theorem ldMemNnA (nn : Word) : Statement (.ldMemNnA nn) := ⟨rfl, _, _, rfl, rfl⟩
theorem illegalEB : Statement .illegalEB := ⟨rfl, _, _, rfl, rfl⟩
theorem illegalEC : Statement .illegalEC := ⟨rfl, _, _, rfl, rfl⟩
theorem illegalED : Statement .illegalED := ⟨rfl, _, _, rfl, rfl⟩
theorem xorAN (n : Byte) : Statement (.xorAN n) := ⟨rfl, _, _, rfl, rfl⟩
theorem rst28 : Statement .rst28 := ⟨rfl, _, _, rfl, rfl⟩
theorem ldhAMemN (n : Byte) : Statement (.ldhAMemN n) := ⟨rfl, _, _, rfl, rfl⟩
theorem popAF : Statement .popAF := ⟨rfl, _, _, rfl, rfl⟩
theorem ldhAMemC : Statement .ldhAMemC := ⟨rfl, _, _, rfl, rfl⟩
theorem di : Statement .di := ⟨rfl, _, _, rfl, rfl⟩
theorem illegalF4 : Statement .illegalF4 := ⟨rfl, _, _, rfl, rfl⟩
theorem pushAF : Statement .pushAF := ⟨rfl, _, _, rfl, rfl⟩
theorem orAN (n : Byte) : Statement (.orAN n) := ⟨rfl, _, _, rfl, rfl⟩
theorem rst30 : Statement .rst30 := ⟨rfl, _, _, rfl, rfl⟩
theorem ldHLSPE (e : Byte) : Statement (.ldHLSPE e) := ⟨rfl, _, _, rfl, rfl⟩
theorem ldSPHL : Statement .ldSPHL := ⟨rfl, _, _, rfl, rfl⟩
theorem ldAMemNn (nn : Word) : Statement (.ldAMemNn nn) := ⟨rfl, _, _, rfl, rfl⟩
theorem ei : Statement .ei := ⟨rfl, _, _, rfl, rfl⟩
theorem illegalFC : Statement .illegalFC := ⟨rfl, _, _, rfl, rfl⟩
theorem illegalFD : Statement .illegalFD := ⟨rfl, _, _, rfl, rfl⟩
theorem cpAN (n : Byte) : Statement (.cpAN n) := ⟨rfl, _, _, rfl, rfl⟩
theorem rst38 : Statement .rst38 := ⟨rfl, _, _, rfl, rfl⟩
theorem rlcB : Statement .rlcB := ⟨rfl, _, _, rfl, rfl⟩
theorem rlcC : Statement .rlcC := ⟨rfl, _, _, rfl, rfl⟩
theorem rlcD : Statement .rlcD := ⟨rfl, _, _, rfl, rfl⟩
theorem rlcE : Statement .rlcE := ⟨rfl, _, _, rfl, rfl⟩
theorem rlcH : Statement .rlcH := ⟨rfl, _, _, rfl, rfl⟩
theorem rlcL : Statement .rlcL := ⟨rfl, _, _, rfl, rfl⟩
theorem rlcMemHL : Statement .rlcMemHL := ⟨rfl, _, _, rfl, rfl⟩
theorem rlcA : Statement .rlcA := ⟨rfl, _, _, rfl, rfl⟩
theorem rrcB : Statement .rrcB := ⟨rfl, _, _, rfl, rfl⟩
theorem rrcC : Statement .rrcC := ⟨rfl, _, _, rfl, rfl⟩
theorem rrcD : Statement .rrcD := ⟨rfl, _, _, rfl, rfl⟩
theorem rrcE : Statement .rrcE := ⟨rfl, _, _, rfl, rfl⟩
theorem rrcH : Statement .rrcH := ⟨rfl, _, _, rfl, rfl⟩
theorem rrcL : Statement .rrcL := ⟨rfl, _, _, rfl, rfl⟩
theorem rrcMemHL : Statement .rrcMemHL := ⟨rfl, _, _, rfl, rfl⟩
theorem rrcA : Statement .rrcA := ⟨rfl, _, _, rfl, rfl⟩
theorem rlB : Statement .rlB := ⟨rfl, _, _, rfl, rfl⟩
theorem rlC : Statement .rlC := ⟨rfl, _, _, rfl, rfl⟩
theorem rlD : Statement .rlD := ⟨rfl, _, _, rfl, rfl⟩
theorem rlE : Statement .rlE := ⟨rfl, _, _, rfl, rfl⟩
theorem rlH : Statement .rlH := ⟨rfl, _, _, rfl, rfl⟩
theorem rlL : Statement .rlL := ⟨rfl, _, _, rfl, rfl⟩
theorem rlMemHL : Statement .rlMemHL := ⟨rfl, _, _, rfl, rfl⟩
theorem rlA : Statement .rlA := ⟨rfl, _, _, rfl, rfl⟩
theorem rrB : Statement .rrB := ⟨rfl, _, _, rfl, rfl⟩
theorem rrC : Statement .rrC := ⟨rfl, _, _, rfl, rfl⟩
theorem rrD : Statement .rrD := ⟨rfl, _, _, rfl, rfl⟩
theorem rrE : Statement .rrE := ⟨rfl, _, _, rfl, rfl⟩
theorem rrH : Statement .rrH := ⟨rfl, _, _, rfl, rfl⟩
theorem rrL : Statement .rrL := ⟨rfl, _, _, rfl, rfl⟩
theorem rrMemHL : Statement .rrMemHL := ⟨rfl, _, _, rfl, rfl⟩
theorem rrA : Statement .rrA := ⟨rfl, _, _, rfl, rfl⟩
theorem slaB : Statement .slaB := ⟨rfl, _, _, rfl, rfl⟩
theorem slaC : Statement .slaC := ⟨rfl, _, _, rfl, rfl⟩
theorem slaD : Statement .slaD := ⟨rfl, _, _, rfl, rfl⟩
theorem slaE : Statement .slaE := ⟨rfl, _, _, rfl, rfl⟩
theorem slaH : Statement .slaH := ⟨rfl, _, _, rfl, rfl⟩
theorem slaL : Statement .slaL := ⟨rfl, _, _, rfl, rfl⟩
theorem slaMemHL : Statement .slaMemHL := ⟨rfl, _, _, rfl, rfl⟩
theorem slaA : Statement .slaA := ⟨rfl, _, _, rfl, rfl⟩
theorem sraB : Statement .sraB := ⟨rfl, _, _, rfl, rfl⟩
theorem sraC : Statement .sraC := ⟨rfl, _, _, rfl, rfl⟩
theorem sraD : Statement .sraD := ⟨rfl, _, _, rfl, rfl⟩
theorem sraE : Statement .sraE := ⟨rfl, _, _, rfl, rfl⟩
theorem sraH : Statement .sraH := ⟨rfl, _, _, rfl, rfl⟩
theorem sraL : Statement .sraL := ⟨rfl, _, _, rfl, rfl⟩
theorem sraMemHL : Statement .sraMemHL := ⟨rfl, _, _, rfl, rfl⟩
theorem sraA : Statement .sraA := ⟨rfl, _, _, rfl, rfl⟩
theorem swapB : Statement .swapB := ⟨rfl, _, _, rfl, rfl⟩
theorem swapC : Statement .swapC := ⟨rfl, _, _, rfl, rfl⟩
theorem swapD : Statement .swapD := ⟨rfl, _, _, rfl, rfl⟩
theorem swapE : Statement .swapE := ⟨rfl, _, _, rfl, rfl⟩
theorem swapH : Statement .swapH := ⟨rfl, _, _, rfl, rfl⟩
theorem swapL : Statement .swapL := ⟨rfl, _, _, rfl, rfl⟩
theorem swapMemHL : Statement .swapMemHL := ⟨rfl, _, _, rfl, rfl⟩
theorem swapA : Statement .swapA := ⟨rfl, _, _, rfl, rfl⟩
theorem srlB : Statement .srlB := ⟨rfl, _, _, rfl, rfl⟩
theorem srlC : Statement .srlC := ⟨rfl, _, _, rfl, rfl⟩
theorem srlD : Statement .srlD := ⟨rfl, _, _, rfl, rfl⟩
theorem srlE : Statement .srlE := ⟨rfl, _, _, rfl, rfl⟩
theorem srlH : Statement .srlH := ⟨rfl, _, _, rfl, rfl⟩
theorem srlL : Statement .srlL := ⟨rfl, _, _, rfl, rfl⟩
theorem srlMemHL : Statement .srlMemHL := ⟨rfl, _, _, rfl, rfl⟩
theorem srlA : Statement .srlA := ⟨rfl, _, _, rfl, rfl⟩
theorem bit0B : Statement .bit0B := ⟨rfl, _, _, rfl, rfl⟩
theorem bit0C : Statement .bit0C := ⟨rfl, _, _, rfl, rfl⟩
theorem bit0D : Statement .bit0D := ⟨rfl, _, _, rfl, rfl⟩
theorem bit0E : Statement .bit0E := ⟨rfl, _, _, rfl, rfl⟩
theorem bit0H : Statement .bit0H := ⟨rfl, _, _, rfl, rfl⟩
theorem bit0L : Statement .bit0L := ⟨rfl, _, _, rfl, rfl⟩
theorem bit0MemHL : Statement .bit0MemHL := ⟨rfl, _, _, rfl, rfl⟩
theorem bit0A : Statement .bit0A := ⟨rfl, _, _, rfl, rfl⟩
theorem bit1B : Statement .bit1B := ⟨rfl, _, _, rfl, rfl⟩
theorem bit1C : Statement .bit1C := ⟨rfl, _, _, rfl, rfl⟩
theorem bit1D : Statement .bit1D := ⟨rfl, _, _, rfl, rfl⟩
theorem bit1E : Statement .bit1E := ⟨rfl, _, _, rfl, rfl⟩
theorem bit1H : Statement .bit1H := ⟨rfl, _, _, rfl, rfl⟩
theorem bit1L : Statement .bit1L := ⟨rfl, _, _, rfl, rfl⟩
theorem bit1MemHL : Statement .bit1MemHL := ⟨rfl, _, _, rfl, rfl⟩
theorem bit1A : Statement .bit1A := ⟨rfl, _, _, rfl, rfl⟩
theorem bit2B : Statement .bit2B := ⟨rfl, _, _, rfl, rfl⟩
theorem bit2C : Statement .bit2C := ⟨rfl, _, _, rfl, rfl⟩
theorem bit2D : Statement .bit2D := ⟨rfl, _, _, rfl, rfl⟩
theorem bit2E : Statement .bit2E := ⟨rfl, _, _, rfl, rfl⟩
theorem bit2H : Statement .bit2H := ⟨rfl, _, _, rfl, rfl⟩
theorem bit2L : Statement .bit2L := ⟨rfl, _, _, rfl, rfl⟩
theorem bit2MemHL : Statement .bit2MemHL := ⟨rfl, _, _, rfl, rfl⟩
theorem bit2A : Statement .bit2A := ⟨rfl, _, _, rfl, rfl⟩
theorem bit3B : Statement .bit3B := ⟨rfl, _, _, rfl, rfl⟩
theorem bit3C : Statement .bit3C := ⟨rfl, _, _, rfl, rfl⟩
theorem bit3D : Statement .bit3D := ⟨rfl, _, _, rfl, rfl⟩
theorem bit3E : Statement .bit3E := ⟨rfl, _, _, rfl, rfl⟩
theorem bit3H : Statement .bit3H := ⟨rfl, _, _, rfl, rfl⟩
theorem bit3L : Statement .bit3L := ⟨rfl, _, _, rfl, rfl⟩
theorem bit3MemHL : Statement .bit3MemHL := ⟨rfl, _, _, rfl, rfl⟩
theorem bit3A : Statement .bit3A := ⟨rfl, _, _, rfl, rfl⟩
theorem bit4B : Statement .bit4B := ⟨rfl, _, _, rfl, rfl⟩
theorem bit4C : Statement .bit4C := ⟨rfl, _, _, rfl, rfl⟩
theorem bit4D : Statement .bit4D := ⟨rfl, _, _, rfl, rfl⟩
theorem bit4E : Statement .bit4E := ⟨rfl, _, _, rfl, rfl⟩
theorem bit4H : Statement .bit4H := ⟨rfl, _, _, rfl, rfl⟩
theorem bit4L : Statement .bit4L := ⟨rfl, _, _, rfl, rfl⟩
theorem bit4MemHL : Statement .bit4MemHL := ⟨rfl, _, _, rfl, rfl⟩
theorem bit4A : Statement .bit4A := ⟨rfl, _, _, rfl, rfl⟩
theorem bit5B : Statement .bit5B := ⟨rfl, _, _, rfl, rfl⟩
theorem bit5C : Statement .bit5C := ⟨rfl, _, _, rfl, rfl⟩
theorem bit5D : Statement .bit5D := ⟨rfl, _, _, rfl, rfl⟩
theorem bit5E : Statement .bit5E := ⟨rfl, _, _, rfl, rfl⟩
theorem bit5H : Statement .bit5H := ⟨rfl, _, _, rfl, rfl⟩
theorem bit5L : Statement .bit5L := ⟨rfl, _, _, rfl, rfl⟩
theorem bit5MemHL : Statement .bit5MemHL := ⟨rfl, _, _, rfl, rfl⟩
theorem bit5A : Statement .bit5A := ⟨rfl, _, _, rfl, rfl⟩
theorem bit6B : Statement .bit6B := ⟨rfl, _, _, rfl, rfl⟩
theorem bit6C : Statement .bit6C := ⟨rfl, _, _, rfl, rfl⟩
theorem bit6D : Statement .bit6D := ⟨rfl, _, _, rfl, rfl⟩
theorem bit6E : Statement .bit6E := ⟨rfl, _, _, rfl, rfl⟩
theorem bit6H : Statement .bit6H := ⟨rfl, _, _, rfl, rfl⟩
theorem bit6L : Statement .bit6L := ⟨rfl, _, _, rfl, rfl⟩
theorem bit6MemHL : Statement .bit6MemHL := ⟨rfl, _, _, rfl, rfl⟩
theorem bit6A : Statement .bit6A := ⟨rfl, _, _, rfl, rfl⟩
theorem bit7B : Statement .bit7B := ⟨rfl, _, _, rfl, rfl⟩
theorem bit7C : Statement .bit7C := ⟨rfl, _, _, rfl, rfl⟩
theorem bit7D : Statement .bit7D := ⟨rfl, _, _, rfl, rfl⟩
theorem bit7E : Statement .bit7E := ⟨rfl, _, _, rfl, rfl⟩
theorem bit7H : Statement .bit7H := ⟨rfl, _, _, rfl, rfl⟩
theorem bit7L : Statement .bit7L := ⟨rfl, _, _, rfl, rfl⟩
theorem bit7MemHL : Statement .bit7MemHL := ⟨rfl, _, _, rfl, rfl⟩
theorem bit7A : Statement .bit7A := ⟨rfl, _, _, rfl, rfl⟩
theorem res0B : Statement .res0B := ⟨rfl, _, _, rfl, rfl⟩
theorem res0C : Statement .res0C := ⟨rfl, _, _, rfl, rfl⟩
theorem res0D : Statement .res0D := ⟨rfl, _, _, rfl, rfl⟩
theorem res0E : Statement .res0E := ⟨rfl, _, _, rfl, rfl⟩
theorem res0H : Statement .res0H := ⟨rfl, _, _, rfl, rfl⟩
theorem res0L : Statement .res0L := ⟨rfl, _, _, rfl, rfl⟩
theorem res0MemHL : Statement .res0MemHL := ⟨rfl, _, _, rfl, rfl⟩
theorem res0A : Statement .res0A := ⟨rfl, _, _, rfl, rfl⟩
theorem res1B : Statement .res1B := ⟨rfl, _, _, rfl, rfl⟩
theorem res1C : Statement .res1C := ⟨rfl, _, _, rfl, rfl⟩
theorem res1D : Statement .res1D := ⟨rfl, _, _, rfl, rfl⟩
theorem res1E : Statement .res1E := ⟨rfl, _, _, rfl, rfl⟩
theorem res1H : Statement .res1H := ⟨rfl, _, _, rfl, rfl⟩
theorem res1L : Statement .res1L := ⟨rfl, _, _, rfl, rfl⟩
theorem res1MemHL : Statement .res1MemHL := ⟨rfl, _, _, rfl, rfl⟩
theorem res1A : Statement .res1A := ⟨rfl, _, _, rfl, rfl⟩
theorem res2B : Statement .res2B := ⟨rfl, _, _, rfl, rfl⟩
theorem res2C : Statement .res2C := ⟨rfl, _, _, rfl, rfl⟩
theorem res2D : Statement .res2D := ⟨rfl, _, _, rfl, rfl⟩
theorem res2E : Statement .res2E := ⟨rfl, _, _, rfl, rfl⟩
theorem res2H : Statement .res2H := ⟨rfl, _, _, rfl, rfl⟩
theorem res2L : Statement .res2L := ⟨rfl, _, _, rfl, rfl⟩
theorem res2MemHL : Statement .res2MemHL := ⟨rfl, _, _, rfl, rfl⟩
theorem res2A : Statement .res2A := ⟨rfl, _, _, rfl, rfl⟩
theorem res3B : Statement .res3B := ⟨rfl, _, _, rfl, rfl⟩
theorem res3C : Statement .res3C := ⟨rfl, _, _, rfl, rfl⟩
theorem res3D : Statement .res3D := ⟨rfl, _, _, rfl, rfl⟩
theorem res3E : Statement .res3E := ⟨rfl, _, _, rfl, rfl⟩
theorem res3H : Statement .res3H := ⟨rfl, _, _, rfl, rfl⟩
theorem res3L : Statement .res3L := ⟨rfl, _, _, rfl, rfl⟩
theorem res3MemHL : Statement .res3MemHL := ⟨rfl, _, _, rfl, rfl⟩
theorem res3A : Statement .res3A := ⟨rfl, _, _, rfl, rfl⟩
theorem res4B : Statement .res4B := ⟨rfl, _, _, rfl, rfl⟩
theorem res4C : Statement .res4C := ⟨rfl, _, _, rfl, rfl⟩
theorem res4D : Statement .res4D := ⟨rfl, _, _, rfl, rfl⟩
theorem res4E : Statement .res4E := ⟨rfl, _, _, rfl, rfl⟩
theorem res4H : Statement .res4H := ⟨rfl, _, _, rfl, rfl⟩
theorem res4L : Statement .res4L := ⟨rfl, _, _, rfl, rfl⟩
theorem res4MemHL : Statement .res4MemHL := ⟨rfl, _, _, rfl, rfl⟩
theorem res4A : Statement .res4A := ⟨rfl, _, _, rfl, rfl⟩
theorem res5B : Statement .res5B := ⟨rfl, _, _, rfl, rfl⟩
theorem res5C : Statement .res5C := ⟨rfl, _, _, rfl, rfl⟩
theorem res5D : Statement .res5D := ⟨rfl, _, _, rfl, rfl⟩
theorem res5E : Statement .res5E := ⟨rfl, _, _, rfl, rfl⟩
theorem res5H : Statement .res5H := ⟨rfl, _, _, rfl, rfl⟩
theorem res5L : Statement .res5L := ⟨rfl, _, _, rfl, rfl⟩
theorem res5MemHL : Statement .res5MemHL := ⟨rfl, _, _, rfl, rfl⟩
theorem res5A : Statement .res5A := ⟨rfl, _, _, rfl, rfl⟩
theorem res6B : Statement .res6B := ⟨rfl, _, _, rfl, rfl⟩
theorem res6C : Statement .res6C := ⟨rfl, _, _, rfl, rfl⟩
theorem res6D : Statement .res6D := ⟨rfl, _, _, rfl, rfl⟩
theorem res6E : Statement .res6E := ⟨rfl, _, _, rfl, rfl⟩
theorem res6H : Statement .res6H := ⟨rfl, _, _, rfl, rfl⟩
theorem res6L : Statement .res6L := ⟨rfl, _, _, rfl, rfl⟩
theorem res6MemHL : Statement .res6MemHL := ⟨rfl, _, _, rfl, rfl⟩
theorem res6A : Statement .res6A := ⟨rfl, _, _, rfl, rfl⟩
theorem res7B : Statement .res7B := ⟨rfl, _, _, rfl, rfl⟩
theorem res7C : Statement .res7C := ⟨rfl, _, _, rfl, rfl⟩
theorem res7D : Statement .res7D := ⟨rfl, _, _, rfl, rfl⟩
theorem res7E : Statement .res7E := ⟨rfl, _, _, rfl, rfl⟩
theorem res7H : Statement .res7H := ⟨rfl, _, _, rfl, rfl⟩
theorem res7L : Statement .res7L := ⟨rfl, _, _, rfl, rfl⟩
theorem res7MemHL : Statement .res7MemHL := ⟨rfl, _, _, rfl, rfl⟩
theorem res7A : Statement .res7A := ⟨rfl, _, _, rfl, rfl⟩
theorem set0B : Statement .set0B := ⟨rfl, _, _, rfl, rfl⟩
theorem set0C : Statement .set0C := ⟨rfl, _, _, rfl, rfl⟩
theorem set0D : Statement .set0D := ⟨rfl, _, _, rfl, rfl⟩
theorem set0E : Statement .set0E := ⟨rfl, _, _, rfl, rfl⟩
theorem set0H : Statement .set0H := ⟨rfl, _, _, rfl, rfl⟩
theorem set0L : Statement .set0L := ⟨rfl, _, _, rfl, rfl⟩
theorem set0MemHL : Statement .set0MemHL := ⟨rfl, _, _, rfl, rfl⟩
theorem set0A : Statement .set0A := ⟨rfl, _, _, rfl, rfl⟩
theorem set1B : Statement .set1B := ⟨rfl, _, _, rfl, rfl⟩
theorem set1C : Statement .set1C := ⟨rfl, _, _, rfl, rfl⟩
theorem set1D : Statement .set1D := ⟨rfl, _, _, rfl, rfl⟩
theorem set1E : Statement .set1E := ⟨rfl, _, _, rfl, rfl⟩
theorem set1H : Statement .set1H := ⟨rfl, _, _, rfl, rfl⟩
theorem set1L : Statement .set1L := ⟨rfl, _, _, rfl, rfl⟩
theorem set1MemHL : Statement .set1MemHL := ⟨rfl, _, _, rfl, rfl⟩
theorem set1A : Statement .set1A := ⟨rfl, _, _, rfl, rfl⟩
theorem set2B : Statement .set2B := ⟨rfl, _, _, rfl, rfl⟩
theorem set2C : Statement .set2C := ⟨rfl, _, _, rfl, rfl⟩
theorem set2D : Statement .set2D := ⟨rfl, _, _, rfl, rfl⟩
theorem set2E : Statement .set2E := ⟨rfl, _, _, rfl, rfl⟩
theorem set2H : Statement .set2H := ⟨rfl, _, _, rfl, rfl⟩
theorem set2L : Statement .set2L := ⟨rfl, _, _, rfl, rfl⟩
theorem set2MemHL : Statement .set2MemHL := ⟨rfl, _, _, rfl, rfl⟩
theorem set2A : Statement .set2A := ⟨rfl, _, _, rfl, rfl⟩
theorem set3B : Statement .set3B := ⟨rfl, _, _, rfl, rfl⟩
theorem set3C : Statement .set3C := ⟨rfl, _, _, rfl, rfl⟩
theorem set3D : Statement .set3D := ⟨rfl, _, _, rfl, rfl⟩
theorem set3E : Statement .set3E := ⟨rfl, _, _, rfl, rfl⟩
theorem set3H : Statement .set3H := ⟨rfl, _, _, rfl, rfl⟩
theorem set3L : Statement .set3L := ⟨rfl, _, _, rfl, rfl⟩
theorem set3MemHL : Statement .set3MemHL := ⟨rfl, _, _, rfl, rfl⟩
theorem set3A : Statement .set3A := ⟨rfl, _, _, rfl, rfl⟩
theorem set4B : Statement .set4B := ⟨rfl, _, _, rfl, rfl⟩
theorem set4C : Statement .set4C := ⟨rfl, _, _, rfl, rfl⟩
theorem set4D : Statement .set4D := ⟨rfl, _, _, rfl, rfl⟩
theorem set4E : Statement .set4E := ⟨rfl, _, _, rfl, rfl⟩
theorem set4H : Statement .set4H := ⟨rfl, _, _, rfl, rfl⟩
theorem set4L : Statement .set4L := ⟨rfl, _, _, rfl, rfl⟩
theorem set4MemHL : Statement .set4MemHL := ⟨rfl, _, _, rfl, rfl⟩
theorem set4A : Statement .set4A := ⟨rfl, _, _, rfl, rfl⟩
theorem set5B : Statement .set5B := ⟨rfl, _, _, rfl, rfl⟩
theorem set5C : Statement .set5C := ⟨rfl, _, _, rfl, rfl⟩
theorem set5D : Statement .set5D := ⟨rfl, _, _, rfl, rfl⟩
theorem set5E : Statement .set5E := ⟨rfl, _, _, rfl, rfl⟩
theorem set5H : Statement .set5H := ⟨rfl, _, _, rfl, rfl⟩
theorem set5L : Statement .set5L := ⟨rfl, _, _, rfl, rfl⟩
theorem set5MemHL : Statement .set5MemHL := ⟨rfl, _, _, rfl, rfl⟩
theorem set5A : Statement .set5A := ⟨rfl, _, _, rfl, rfl⟩
theorem set6B : Statement .set6B := ⟨rfl, _, _, rfl, rfl⟩
theorem set6C : Statement .set6C := ⟨rfl, _, _, rfl, rfl⟩
theorem set6D : Statement .set6D := ⟨rfl, _, _, rfl, rfl⟩
theorem set6E : Statement .set6E := ⟨rfl, _, _, rfl, rfl⟩
theorem set6H : Statement .set6H := ⟨rfl, _, _, rfl, rfl⟩
theorem set6L : Statement .set6L := ⟨rfl, _, _, rfl, rfl⟩
theorem set6MemHL : Statement .set6MemHL := ⟨rfl, _, _, rfl, rfl⟩
theorem set6A : Statement .set6A := ⟨rfl, _, _, rfl, rfl⟩
theorem set7B : Statement .set7B := ⟨rfl, _, _, rfl, rfl⟩
theorem set7C : Statement .set7C := ⟨rfl, _, _, rfl, rfl⟩
theorem set7D : Statement .set7D := ⟨rfl, _, _, rfl, rfl⟩
theorem set7E : Statement .set7E := ⟨rfl, _, _, rfl, rfl⟩
theorem set7H : Statement .set7H := ⟨rfl, _, _, rfl, rfl⟩
theorem set7L : Statement .set7L := ⟨rfl, _, _, rfl, rfl⟩
theorem set7MemHL : Statement .set7MemHL := ⟨rfl, _, _, rfl, rfl⟩
theorem set7A : Statement .set7A := ⟨rfl, _, _, rfl, rfl⟩

end Sys2Proof.Laws.EncodedForm
end

