-- ==== Sys2Proof/Laws/Step.lean ====
section
/-! SUPPORT. One step, taken apart once: the fetch, the instruction, what follows it; and the wait of a halted machine. -/

namespace Sys2Proof.Machine

theorem calm_fetchOperand (s : State) (pc : Word) (i len : Nat) : Calm s (fetchOperand s pc i len).2 := by
  unfold fetchOperand; split
  exacts [calm_busRead _ _, .refl s]

/-- The fetch keeps what every quiet instruction keeps; it moves PC. -/
theorem calm_fetch (s : State) : Calm s (fetch s).2 :=
  (((calm_busRead s _).trans (calm_fetchOperand _ _ _ _)).trans (calm_fetchOperand _ _ _ _)).trans (calm_setPc _ _)

/-- A step of the running machine: the fetched instruction answers `t`, and the step completes it. -/
theorem step_running {s : State} (h : s.mode = .running) :
    ∃ t, exec (fetch s).1 (fetch s).2 = .next t ∧ Effect (fetch s).1 (fetch s).2 t ∧ step s = .next (complete t) := by
  obtain ⟨t, e, g⟩ := exec_answers (fetch s).1 (fetch s).2
  refine ⟨t, e, g, ?_⟩
  unfold step; rw [h]; simp only [e]; rfl

/-- A step of the waiting machine. -/
theorem step_halted {s : State} (h : s.mode = .halted) : step s = .next (haltedIteration s) := by
  unfold step; rw [h]

theorem complete_mode (s : State) : (complete s).mode = s.mode := by
  unfold complete; split <;> simp [*, post_mode]

/-- The fields that no part of a step writes. -/
structure SameParameters (s t : State) : Prop where
  cart : t.cart = s.cart
  joypad : t.joypad = s.joypad
  resets : t.resets = s.resets
  rom : t.mem.rom = s.mem.rom

theorem SameParameters.trans {s t u : State} (h : SameParameters s t) (g : SameParameters t u) : SameParameters s u :=
  ⟨g.cart.trans h.cart, g.joypad.trans h.joypad, g.resets.trans h.resets, g.rom.trans h.rom⟩

theorem Calm.sameParameters {s t : State} (h : Calm s t) : SameParameters s t := ⟨h.cart, h.joypad, h.resets, h.rom⟩

theorem Effect.sameParameters {i : Instr} {s t : State} (h : Effect i s t) : SameParameters s t :=
  ⟨h.cart, h.joypad, h.resets, h.rom⟩

theorem sameParameters_countAndTick (s : State) : SameParameters s (countAndTick s) := by
  have h := busStep_timingTick { s with clock := s.clock + 1 }
  exact ⟨h.cart, h.joypad, h.resets, h.rom⟩

theorem sameParameters_interruptEntry (s : State) (i : Nat) : SameParameters s (interruptEntry s i) := by
  have h := calm_push16 s s.regs.pc
  have g := busStep_writeIo { push16 s s.regs.pc with ime := false } 0x0F (putBit (readIo (push16 s s.regs.pc) 0x0F) i false)
  exact ⟨g.cart.trans h.cart, g.joypad.trans h.joypad, g.resets.trans h.resets, g.rom.trans h.rom⟩

theorem sameParameters_post (s : State) : SameParameters s (post s) := by
  have h1 : SameParameters s (eiSlot s) := by rw [eiSlot_cases]; exact ⟨rfl, rfl, rfl, rfl⟩
  refine (h1.trans (sameParameters_countAndTick _)).trans ?_
  unfold post
  rcases interruptCheck_cases (countAndTick (eiSlot s)) with g | ⟨-, i, -, g⟩ <;> rw [g]
  exacts [⟨rfl, rfl, rfl, rfl⟩, sameParameters_interruptEntry _ i]

theorem sameParameters_complete (s : State) : SameParameters s (complete s) := by
  unfold complete; split
  exacts [⟨rfl, rfl, rfl, rfl⟩, sameParameters_post s]

/-- Restricting to the five sources drops no bit of theirs (R414). -/
theorem bitOf_sources (x : Byte) {j : Nat} (h : j < 5) : bitOf (x &&& 0x1F) j = bitOf x j := by
  unfold bitOf; rw [BitVec.getLsbD_and]
  interval_cases j <;> simp

/-- R416: the source entered is the least one that is pending and enabled. -/
theorem leastSource_eq_some {p : Byte} {i : Nat} :
    leastSource p = some i ↔ i < 5 ∧ bitOf p i = true ∧ ∀ j, j < i → bitOf p j = false := by
  unfold leastSource
  constructor
  · intro h
    simp only [List.find?] at h
    repeat' split at h
    all_goals first | (cases h; done) | skip
    all_goals (cases h; refine ⟨by omega, ‹_›, ?_⟩; intro j hj; interval_cases j <;> simpa using by assumption)
  · rintro ⟨h1, h2, h3⟩
    interval_cases i <;> simp [List.find?, h2, h3]

end Sys2Proof.Machine
end

