-- ==== Sys2Proof/Laws/Values.lean ====
section
/-! SUPPORT. The ALU functions of Flags.lean as arithmetic on natural numbers, result and flags. -/

namespace Sys2Proof.Machine

theorem ofNat_beq_zero (n : Nat) : (BitVec.ofNat 8 n == 0) = decide (n % 256 = 0) := by
  rw [Bool.eq_iff_iff]; simp [← BitVec.toNat_inj]

/-- R230. -/
theorem add8_values (a v : Byte) (c : Bool) :
    (add8 a v c).1.toNat = (a.toNat + v.toNat + c.toNat) % 256 ∧
      (add8 a v c).2 =
        ⟨some (decide ((a.toNat + v.toNat + c.toNat) % 256 = 0)), some false,
          some (decide (a.toNat % 16 + v.toNat % 16 + c.toNat > 15)), some (decide (a.toNat + v.toNat + c.toNat > 255))⟩ := by
  simp only [add8, ofNat_beq_zero]; exact ⟨BitVec.toNat_ofNat _ _, trivial⟩

/-- R231. -/
theorem sub8_values (a v : Byte) (c : Bool) :
    (sub8 a v c).1.toNat = (256 + a.toNat - (v.toNat + c.toNat)) % 256 ∧
      (sub8 a v c).2 =
        ⟨some (decide ((256 + a.toNat - (v.toNat + c.toNat)) % 256 = 0)), some true,
          some (decide (a.toNat % 16 < v.toNat % 16 + c.toNat)), some (decide (a.toNat < v.toNat + c.toNat))⟩ := by
  have e : (a - v - BitVec.ofNat 8 c.toNat : Byte).toNat = (256 + a.toNat - (v.toNat + c.toNat)) % 256 := by
    rw [BitVec.toNat_sub, BitVec.toNat_sub]; have := a.isLt; have := v.isLt
    cases c <;> simp <;> omega
  simp only [sub8]
  refine ⟨e, ?_⟩
  congr 2
  rw [Bool.eq_iff_iff, ← e]; simp [← BitVec.toNat_inj]

/-- R235, R236. -/
theorem step8_values (v : Byte) :
    inc8 v = (BitVec.ofNat 8 (v.toNat + 1),
        ⟨some (decide (v.toNat = 255)), some false, some (decide (v.toNat % 16 = 15)), none⟩) ∧
      dec8 v = (BitVec.ofNat 8 (v.toNat + 255),
        ⟨some (decide (v.toNat = 1)), some true, some (decide (v.toNat % 16 = 0)), none⟩) := by
  revert v; decide +kernel

/-- R239. -/
theorem daa8_values (n h c : Bool) (a : Byte) :
    let carry := if n then c else c || decide (0x99 < a.toNat)
    let adj := (if (if n then h else h || decide (9 < a.toNat % 16)) then 0x06 else 0) + (if carry then 0x60 else 0)
    (daa8 a n h c).1.toNat = (if n then 256 + a.toNat - adj else a.toNat + adj) % 256 ∧
      (daa8 a n h c).2 = ⟨some (decide ((daa8 a n h c).1 = 0)), none, some false, some carry⟩ := by
  revert n h c a; decide +kernel

/-- R9: the displacement, sign-extended. -/
theorem signExtend8_values (e : Byte) : ((signExtend8 e).toNat : Int) = e.toInt % 65536 := by
  revert e; decide +kernel

theorem add_signExtend8 (w : Word) (e : Byte) : ((w + signExtend8 e).toNat : Int) = (w.toNat + e.toInt) % 65536 := by
  rw [BitVec.toNat_add]; push_cast; rw [signExtend8_values]; omega

/-- R240 to R247: the results and the carries out of the rotates, the shifts and `SWAP`. -/
theorem shift8_values (v : Byte) (c : Bool) :
    rlc8 v = shiftOut (BitVec.ofNat 8 (2 * v.toNat % 256 + v.toNat / 128)) (decide (128 ≤ v.toNat)) ∧
      rrc8 v = shiftOut (BitVec.ofNat 8 (v.toNat / 2 + v.toNat % 2 * 128)) (decide (v.toNat % 2 = 1)) ∧
      rl8 v c = shiftOut (BitVec.ofNat 8 (2 * v.toNat % 256 + c.toNat)) (decide (128 ≤ v.toNat)) ∧
      rr8 v c = shiftOut (BitVec.ofNat 8 (v.toNat / 2 + c.toNat * 128)) (decide (v.toNat % 2 = 1)) ∧
      sla8 v = shiftOut (BitVec.ofNat 8 (2 * v.toNat % 256)) (decide (128 ≤ v.toNat)) ∧
      sra8 v = shiftOut (BitVec.ofNat 8 (v.toNat / 2 + v.toNat / 128 * 128)) (decide (v.toNat % 2 = 1)) ∧
      swap8 v = shiftOut (BitVec.ofNat 8 (v.toNat % 16 * 16 + v.toNat / 16)) false ∧
      srl8 v = shiftOut (BitVec.ofNat 8 (v.toNat / 2)) (decide (v.toNat % 2 = 1)) := by
  revert v c; decide +kernel

end Sys2Proof.Machine
end

