-- ==== Sys2Proof/Tests/Slice0.lean ====
section
/-! SUPPORT. The model's own tests. Expected results are those of spec/95_test_vectors.md and of the rules cited (the words of
the decode tests are written out from 30_encoding.md R204, R213, R214); then the witnesses that the hypotheses of the
statements can be met, one for each clause, at boundary values. -/

namespace Sys2Proof.Machine

/-! ## Well-formedness and decoding -/

theorem test_codeWellFormed_no_byte : codeWellFormed [] = false := by decide
theorem test_codeWellFormed_four_bytes : codeWellFormed [0x01, 0x00, 0x00, 0x00] = false := by decide
theorem test_codeWellFormed_extension_alone : codeWellFormed [0xCB] = false := by decide
theorem test_codeWellFormed_extension_three : codeWellFormed [0xCB, 0x00, 0x00] = false := by decide
theorem test_decode_empty : decodeBytes [] = .error .empty := by rfl
theorem test_decode_truncated : decodeBytes [0xC3, 0x50] = .error (.truncated 0xC3) := by rfl

/-- R210: `LD r,r'` is 01 r r': r = B = 000, r' = A = 111. -/
theorem test_decode_load8 : decodeBytes [0b01000111] = .ok (.ldBA, []) := by rfl
/-- R213: `LD r,n` is 00 r 110. -/
theorem test_decode_load8_immediate : decodeBytes [0b00111110, 0x7F] = .ok (.ldAN 0x7F, []) := by rfl
/-- R206: a 16-bit operand has its low byte first. -/
theorem test_decode_load16 : decodeBytes [0b00000001, 0x34, 0x12] = .ok (.ldBCNn 0x1234, []) := by rfl
/-- R213: `PUSH rp2` is 11 pp 0101, pp = AF = 11. -/
theorem test_decode_push : decodeBytes [0b11110101] = .ok (.pushAF, []) := by rfl
/-- R212: 10 ooo r, operation SBC = 011, operand (HL) = 110. -/
theorem test_decode_alu8 : decodeBytes [0b10011110] = .ok (.sbcAMemHL, []) := by rfl
/-- R213: `ADD HL,rp` is 00 pp 1001, pp = SP = 11. -/
theorem test_decode_alu16 : decodeBytes [0b00111001] = .ok (.addHLSP, []) := by rfl
/-- R213: `RRA` is 00 011 111. -/
theorem test_decode_rotate_accumulator : decodeBytes [0b00011111] = .ok (.rra, []) := by rfl
/-- R214: 0xCB, 00 ooo r, operation SRL = 111, operand L = 101. -/
theorem test_decode_shift : decodeBytes [0xCB, 0b00111101] = .ok (.srlL, []) := by rfl
/-- R214: 0xCB, 01 b r, bit 5, operand (HL). -/
theorem test_decode_bit : decodeBytes [0xCB, 0b01101110] = .ok (.bit5MemHL, []) := by rfl
/-- R213: `JP cc,nn` is 110 cc 010, cc = C = 11. -/
theorem test_decode_control : decodeBytes [0b11011010, 0x34, 0x12] = .ok (.jpCNn 0x1234, []) := by rfl
/-- R362: the second byte of `STOP` is taken and not examined. -/
theorem test_decode_system : decodeBytes [0b00010000, 0x3C, 0x3C] = .ok (.stop 0x3C, [0x3C]) := by rfl

/-! ## One step, from the vectors of spec/95 -/

/-- The state after reset with `bytes` in ROM at 0x0100 and the registers `g`. -/
def ready (bytes : List Byte) (g : Regs) : State :=
  { State.reset with regs := g, mem := { State.reset.mem with rom := Memory.ofBytes 0x0100 bytes } }

/-- `s` with `b` written at the address `a` over the bus. -/
def poked (s : State) (a : Word) (b : Byte) : State := busWrite s a b

/-- The registers after one step, and the byte that a read of `a` then gives. -/
def outcome (s : State) (a : Word) : Option (Regs × Byte) :=
  match step s with
  | .next t => some (t.regs, (busRead t a).1)
  | _ => none

/-- The registers of R470. -/
def r0 : Regs := Regs.reset false

theorem test_add : outcome (ready [0x80] { r0 with a := 0x3A, b := 0xC6, f := 0x00 }) 0xC000 =
    some ({ r0 with a := 0x00, b := 0xC6, f := 0xB0, pc := 0x0101 },
      Config.wramPowerOn 0 0) := by rfl
theorem test_adc_immediate : (outcome (ready [0xCE, 0xFF] { r0 with a := 0x00, f := 0x10 }) 0x0100).map (·.1) =
    some { r0 with a := 0x00, f := 0xB0, pc := 0x0102 } := by decide
theorem test_sub_memory :
    (outcome (poked (ready [0x96] { r0 with a := 0x3E, h := 0xC0, l := 0x00, f := 0x00 }) 0xC000 0x40) 0x0100).map (·.1) =
    some { r0 with a := 0xFE, h := 0xC0, l := 0x00, f := 0x50, pc := 0x0101 } := by decide
theorem test_sbc : (outcome (ready [0x9C] { r0 with a := 0x3B, h := 0x2A, f := 0x10 }) 0x0100).map (·.1) =
    some { r0 with a := 0x10, h := 0x2A, f := 0x40, pc := 0x0101 } := by decide
theorem test_cp : (outcome (ready [0xB8] { r0 with a := 0x3C, b := 0x40, f := 0x00 }) 0x0100).map (·.1) =
    some { r0 with a := 0x3C, b := 0x40, f := 0x50, pc := 0x0101 } := by decide
theorem test_dec_memory :
    outcome (poked (ready [0x35] { r0 with h := 0xC0, l := 0x00, f := 0x00 }) 0xC000 0x00) 0xC000 =
    some ({ r0 with h := 0xC0, l := 0x00, f := 0x60, pc := 0x0101 }, 0xFF) := by decide
theorem test_daa_add : (outcome (ready [0x27] { r0 with a := 0x9A, f := 0x00 }) 0x0100).map (·.1) =
    some { r0 with a := 0x00, f := 0x90, pc := 0x0101 } := by decide
theorem test_daa_sub : (outcome (ready [0x27] { r0 with a := 0x4B, f := 0x60 }) 0x0100).map (·.1) =
    some { r0 with a := 0x45, f := 0x40, pc := 0x0101 } := by decide
theorem test_addHL : (outcome (ready [0x29] { r0 with h := 0x8A, l := 0x23, f := 0x40 }) 0x0100).map (·.1) =
    some { r0 with h := 0x14, l := 0x46, f := 0x70, pc := 0x0101 } := by decide
theorem test_addSP : (outcome (ready [0xE8, 0xFF] { r0 with sp := 0x0001, f := 0xF0 }) 0x0100).map (·.1) =
    some { r0 with sp := 0x0000, f := 0x30, pc := 0x0102 } := by decide
theorem test_load_high_from_memory :
    (outcome (poked (ready [0x66] { r0 with h := 0xC0, l := 0x05 }) 0xC005 0xAA) 0x0100).map (·.1) =
    some { r0 with h := 0xAA, l := 0x05, pc := 0x0101 } := by decide
theorem test_store_increment : outcome (ready [0x22] { r0 with h := 0xFF, l := 0xFF, a := 0x1F }) 0xFFFF =
    some ({ r0 with h := 0x00, l := 0x00, a := 0x1F, pc := 0x0101 }, 0x1F) := by decide
theorem test_load_from_io : (outcome (ready [0xF0, 0x47] r0) 0x0100).map (·.1) =
    some { r0 with a := 0xFC, pc := 0x0102 } := by decide
theorem test_store_sp_low : outcome (ready [0x08, 0x00, 0xC1] { r0 with sp := 0xFFF8 }) 0xC100 =
    some ({ r0 with sp := 0xFFF8, pc := 0x0103 }, 0xF8) := by decide
theorem test_push_high : outcome (ready [0xC5] { r0 with b := 0x12, c := 0x34, sp := 0xD000 }) 0xCFFF =
    some ({ r0 with b := 0x12, c := 0x34, sp := 0xCFFE, pc := 0x0101 }, 0x12) := by decide
theorem test_push_wraps : outcome (ready [0xC5] { r0 with b := 0xAB, c := 0xCD, sp := 0x0001 }) 0xFFFF =
    some ({ r0 with b := 0xAB, c := 0xCD, sp := 0xFFFF, pc := 0x0101 }, 0xCD) := by decide
theorem test_pop_af_masks :
    (outcome (poked (poked (ready [0xF1] { r0 with sp := 0xC100 }) 0xC100 0xFF) 0xC101 0x9A) 0x0100).map (·.1) =
    some { r0 with a := 0x9A, f := 0xF0, sp := 0xC102, pc := 0x0101 } := by decide
theorem test_rlca_clears_z : (outcome (ready [0x07] { r0 with a := 0x00, f := 0xF0 }) 0x0100).map (·.1) =
    some { r0 with a := 0x00, f := 0x00, pc := 0x0101 } := by decide
theorem test_rra : (outcome (ready [0x1F] { r0 with a := 0x81, f := 0x00 }) 0x0100).map (·.1) =
    some { r0 with a := 0x40, f := 0x10, pc := 0x0101 } := by decide
theorem test_sra : (outcome (ready [0xCB, 0x2F] { r0 with a := 0x8A, f := 0x00 }) 0x0100).map (·.1) =
    some { r0 with a := 0xC5, f := 0x00, pc := 0x0102 } := by decide
theorem test_swap : (outcome (ready [0xCB, 0x37] { r0 with a := 0xF1, f := 0xF0 }) 0x0100).map (·.1) =
    some { r0 with a := 0x1F, f := 0x00, pc := 0x0102 } := by decide
theorem test_bit : (outcome (ready [0xCB, 0x7F] { r0 with a := 0x80, f := 0x10 }) 0x0100).map (·.1) =
    some { r0 with a := 0x80, f := 0x30, pc := 0x0102 } := by decide
theorem test_set_memory : outcome (poked (ready [0xCB, 0xFE] { r0 with h := 0xC0, l := 0x00 }) 0xC000 0x01) 0xC000 =
    some ({ r0 with h := 0xC0, l := 0x00, pc := 0x0102 }, 0x81) := by decide
theorem test_jr_backwards : (outcome (ready [0x18, 0x80] r0) 0x0100).map (·.1) = some { r0 with pc := 0x0082 } := by
  decide
theorem test_jp_untaken : (outcome (ready [0xC2, 0x00, 0x02] { r0 with f := 0x80 }) 0x0100).map (·.1) =
    some { r0 with f := 0x80, pc := 0x0103 } := by decide
theorem test_call_pushes_low : outcome (ready [0xCD, 0x00, 0x02] { r0 with sp := 0xD000 }) 0xCFFE =
    some ({ r0 with sp := 0xCFFE, pc := 0x0200 }, 0x03) := by decide
theorem test_rst : outcome (ready [0xEF] { r0 with sp := 0xD000 }) 0xCFFF =
    some ({ r0 with sp := 0xCFFE, pc := 0x0028 }, 0x01) := by decide
theorem test_stop_is_two_bytes : (outcome (ready [0x10, 0x3C, 0x3C] r0) 0x0100).map (·.1) = some { r0 with pc := 0x0102 } := by
  decide

/-- The events of one step. -/
def events (s : State) : Option (List Event) :=
  match step s with
  | .next t => some t.out
  | _ => none

theorem test_illegal_reports : events (ready [0xDD, 0x3C] r0) = some [.illegalOpcode 0x0100 0xDD] := by decide

/-- 2.8: all from PC = 0x0150 holding 0x00, SP = 0xD000. -/
def interruptible (ime : Bool) (flags enable : Byte) : State :=
  poked (poked { State.reset with regs := { r0 with pc := 0x0150, sp := 0xD000 }, ime := ime } 0xFF0F flags) 0xFFFF enable

theorem test_interrupt_priority : outcome (interruptible true 0x05 0x05) 0xFF0F =
    some ({ r0 with pc := 0x0040, sp := 0xCFFE }, 0x04) := by decide
theorem test_interrupt_enabled_only : outcome (interruptible true 0xFF 0x18) 0xFF0F =
    some ({ r0 with pc := 0x0058, sp := 0xCFFE }, 0xF7) := by decide
theorem test_interrupt_no_source : outcome (interruptible true 0xE0 0xE0) 0xFF0F =
    some ({ r0 with pc := 0x0151, sp := 0xD000 }, 0xE0) := by decide
theorem test_interrupt_masked : outcome (interruptible false 0x1F 0x1F) 0xFF0F =
    some ({ r0 with pc := 0x0151, sp := 0xD000 }, 0x1F) := by decide

/-! ## The bus, from the vectors of 2.11 and 2.12 -/

theorem test_unmapped : (busRead (poked State.reset 0xFEA0 0x55) 0xFEA0).1 = 0xFF := by decide
theorem test_ly_write_ignored : (busRead (poked State.reset 0xFF44 0x55) 0xFF44).1 = 0x00 := by decide
theorem test_joypad_read : (busRead (poked State.reset 0xFF00 0x00) 0xFF00).1 = 0xCF := by decide
theorem test_stat_read : (busRead (poked State.reset 0xFF41 0xFF) 0xFF41).1 = 0xFE := by decide
/-- R6, R114: `STAT_MODE` may be any function; here it gives mode 0 at position 0 of a line of 60. -/
theorem test_stat_other_parameter :
    (busRead (State.powerOn { Cart.blank with statMode := [⟨0, 60, .mode0⟩] } [] [] 0x00) 0xFF41).1 = 0x04 := by decide
theorem test_stat_no_coincidence : (busRead (poked (poked State.reset 0xFF41 0xFF) 0xFF45 0x07) 0xFF41).1 = 0xFA := by
  decide
set_option maxRecDepth 8000 in
theorem test_oam_dma :
    (busRead (poked { State.reset with mem := { State.reset.mem with rom := [(0, 0xDE), (1, 0xAD)] } } 0xFF46 0x00)
      0xFE01).1 = 0xAD := by decide

/-- A machine with the mapper `m`, 64 ROM banks and 4 RAM banks. -/
def banked (m : Mapper) : State :=
  State.powerOn { mapper := m, romBanks := 64, ramBanks := 4, cgb := false, rtcInit := ⟨0, 0, 0, 0, 0⟩, statMode := [] }
    [(0x14000, 0x05)] [] 0x00

theorem test_mbc1_bank : (busRead (poked (banked .mbc1) 0x2000 0x05) 0x4000).1 = 0x05 := by decide
theorem test_mbc1_zero_is_one : (poked (banked .mbc1) 0x2000 0x00).mbc.currentBank = 1 := by decide
theorem test_mbc5_zero_is_zero : (poked (banked .mbc5) 0x2000 0x00).mbc.currentBank = 0 := by decide

theorem test_reset_canonical : State.reset.mem.wf = true := by decide

/-! ## Witnesses: states and operands that meet the hypotheses of each statement -/

/-- A waiting machine with IME set. -/
def waiting : State := { State.reset with mode := .halted, ime := true }

/-- A CGB with KEY1 armed (R122), no mapper. -/
def colour : State := poked (State.powerOn { Cart.blank with cgb := true } [] [] 0x00) 0xFF4D 0x01

/-- A machine with the mapper `m` whose RAM gate is open, and RAM bank `b` selected. -/
def gated (m : Mapper) (b : BitVec 4) : State := { banked m with mbc := { (banked m).mbc with ramEnabled := true, ramBank := b } }

theorem witness_DecodeOfEncode : (Instr.ldHLNn 0xFFFF).wellFormed = true := by decide
theorem witness_EncodeOfDecode : decodeBytes [0x31, 0xFE, 0xFF] = .ok (.ldSPNn 0xFFFE, []) := by rfl
/-- One byte, and three bytes up to the end of the address space. -/
theorem witness_StepRunsDecoded :
    State.reset.mode = .running ∧ (readRun State.reset State.reset.regs.pc (encode .nop).length).1 = encode .nop := by decide
theorem witness_StepRunsDecoded_three_bytes :
    (readRun (ready [0xC3, 0x50, 0x01] r0) 0x0100 (encode (.jpNn 0x0150)).length).1 = encode (.jpNn 0x0150) := by decide

/-- A state with a listed cell in three memories that meets the invariant and that steps. -/
theorem witness_StepKeepsInvariant :
    (poked (poked waiting 0xC000 0x55) 0xFFFF 0x01).Inv ∧
      ∃ t, step (poked (poked waiting 0xC000 0x55) 0xFFFF 0x01) = .next t := by
  refine ⟨?_, _, rfl⟩
  have h : waiting.MemInv := by
    refine ⟨by decide, rfl, by decide, fun _ => ⟨rfl, rfl, rfl, rfl⟩, fun h => (by cases h), by decide, ?_⟩
    intro r c hc
    cases r <;> cases hc
  exact ((h.busWrite _ _).busWrite _ _).inv (by decide) (by decide)
theorem witness_ResetInvariant_powerOn :
    Memory.wf .rom [(0x7FFF, 0x01)] = true ∧ Memory.wf .cram [(0x7FFF, 0x00)] = true ∧
      (∀ c ∈ ([(0x7FFF, 0x01)] : Memory), c.1 < Region.size (banked .mbc1).cart .rom) ∧
      ∀ c ∈ ([(0x7FFF, 0x00)] : Memory), c.1 < Region.size (banked .mbc1).cart .cram := by decide

theorem witness_ParametersNeverChange : ∃ t, step waiting = .next t := ⟨_, rfl⟩
theorem witness_ClockAndMode_halt :
    (ready [0x76] r0).mode = .running ∧ (fetch (ready [0x76] r0)).1 = .halt ∧ ∃ t, step (ready [0x76] r0) = .next t :=
  ⟨rfl, rfl, _, rfl⟩
theorem witness_ClockAndMode_other :
    ¬ (waiting.mode = .running ∧ (fetch waiting).1 = .halt) ∧ ∃ t, step waiting = .next t := ⟨by decide, _, rfl⟩
theorem witness_HaltIteration_waits : waiting.mode = .halted ∧ readIo waiting 0x0F = 0 := by decide
theorem witness_HaltIteration_wakes :
    (poked waiting 0xFF0F 0x80).mode = .halted ∧ readIo (poked waiting 0xFF0F 0x80) 0x0F ≠ 0 := by decide
theorem witness_HaltWaitIsBounded : waiting.mode = .halted := rfl

theorem witness_InterruptCheck_first :
    (interruptible true 0x1F 0x1F).ime = true ∧
      bitOf (readIo (interruptible true 0x1F 0x1F) 0x0F &&& readIo (interruptible true 0x1F 0x1F) 0xFF) 0 = true := by decide
theorem witness_InterruptCheck_last :
    (interruptible true 0xFF 0x10).ime = true ∧
      bitOf (readIo (interruptible true 0xFF 0x10) 0x0F &&& readIo (interruptible true 0xFF 0x10) 0xFF) 4 = true ∧
      ∀ j, j < 4 → bitOf (readIo (interruptible true 0xFF 0x10) 0x0F &&& readIo (interruptible true 0xFF 0x10) 0xFF) j = false := by
  decide
theorem witness_InterruptCheck_none :
    (interruptible false 0x1F 0x1F).ime = false ∧
      readIo (interruptible true 0xE0 0xFF) 0x0F &&& readIo (interruptible true 0xE0 0xFF) 0xFF &&& 0x1F = 0 := by decide
/-- The stack of reset, and one whose two bytes lie in Work RAM. -/
theorem witness_ReturnFromInterrupt :
    storageCell State.reset (State.reset.regs.sp - 1) = some (.io, 0xFD) ∧
      storageCell State.reset (State.reset.regs.sp - 2) = some (.io, 0xFC) := by decide
theorem witness_StackRoundTrip :
    storageCell (interruptible true 0 0) (0xD000 - 1) = some (.wram, 0x0FFF) ∧
      storageCell (interruptible true 0 0) (0xD000 - 2) = some (.wram, 0x0FFE) := by decide
theorem witness_EiLatency :
    ∃ u v, step (ready [0xFB, 0x00] r0) = .next u ∧ step u = .next v ∧ (ready [0xFB, 0x00] r0).mode = .running ∧
      (ready [0xFB, 0x00] r0).ime = false ∧ (fetch (ready [0xFB, 0x00] r0)).1 = .ei ∧ (fetch u).1 = .nop :=
  ⟨_, _, rfl, rfl, rfl, rfl, rfl, rfl⟩
theorem witness_EiLatency_any :
    ∃ u, step (ready [0xFB, 0xFB] r0) = .next u ∧ (fetch (ready [0xFB, 0xFB] r0)).1 = .ei ∧ (fetch u).1 = .ei :=
  ⟨_, rfl, rfl, rfl⟩
theorem witness_ControlStateWriters : ∃ t, exec .reti State.reset = .next t := ⟨_, rfl⟩
set_option maxRecDepth 8000 in
theorem witness_FlagWriters : (∀ n e, Instr.ldBC ∉ flagWriters n e) ∧ ∃ t, exec .ldBC State.reset = .next t :=
  ⟨fun _ _ => by simp [flagWriters, addForms, adcForms, subForms, sbcForms, andForms, xorForms, orForms, cpForms, incForms,
    decForms, addHLForms, addSpForms, rlcForms, rrcForms, rlForms, rrForms, slaForms, sraForms, swapForms, srlForms, bitForms],
    _, rfl⟩

theorem witness_ReadAfterWrite :
    storageCell State.reset 0x8000 = some (.vram, 0x0000) ∧ storageCell State.reset 0x9FFF = some (.vram, 0x1FFF) ∧
      storageCell State.reset 0xC000 = some (.wram, 0x0000) ∧ storageCell State.reset 0xFDFF = some (.wram, 0x1DFF) ∧
      storageCell State.reset 0xFE9F = some (.oam, 0x9F) ∧ storageCell State.reset 0xFFFF = some (.io, 0xFF) ∧
      storageCell (gated .mbc1 3) 0xBFFF = some (.cram, 0x7FFF) ∧ storageCell State.reset 0xC000 ≠ some (.wram, 0x1DFF) := by
  decide
theorem witness_EchoRoundTrip : (0 < 0x1E00) ∧ 0x1DFF < 0x1E00 := by decide
/-- What the boundary addresses of each clause resolve to. -/
theorem witness_MemoryMap_rom :
    route State.reset 0x0000 = .cell .rom 0x0000 ∧ route State.reset 0x3FFF = .cell .rom 0x3FFF ∧
      route State.reset 0x4000 = .cell .rom 0x4000 ∧ route State.reset 0x7FFF = .cell .rom 0x7FFF ∧
      route { State.reset with mbc := { State.reset.mbc with currentBank := 2 } } 0x4000 = .outOfRange := by decide
theorem witness_MemoryMap_ram :
    route State.reset 0x8000 = .cell .vram 0 ∧ route State.reset 0x9FFF = .cell .vram 0x1FFF ∧
      route State.reset 0xC000 = .cell .wram 0 ∧ route State.reset 0xCFFF = .cell .wram 0x0FFF ∧
      route State.reset 0xD000 = .cell .wram 0x1000 ∧ route State.reset 0xDFFF = .cell .wram 0x1FFF ∧
      route State.reset 0xFE00 = .cell .oam 0 ∧ route State.reset 0xFE9F = .cell .oam 0x9F ∧
      route State.reset 0xFEA0 = .unmapped ∧ route State.reset 0xFEFF = .unmapped := by decide
theorem witness_CartridgeRamWindow_banked :
    route (banked .noMapper) 0xA000 = .cell .cram 0 ∧ route State.reset 0xA000 = .outOfRange ∧
      route (banked .mbc1) 0xBFFF = .disabled ∧ route (gated .mbc1 3) 0xBFFF = .cell .cram 0x7FFF ∧
      route (gated .mbc5 3) 0xA000 = .cell .cram 0x6000 ∧ route (gated .mbc5 4) 0xA000 = .outOfRange := by decide
theorem witness_CartridgeRamWindow_special :
    route (gated .mbc2 0) 0xA1FF = .nibble 0x1FF ∧ route (gated .mbc2 0) 0xA200 = .outOfRange ∧
      route (gated .mbc3 3) 0xA000 = .cell .cram 0x6000 ∧ route (gated .mbc3 4) 0xA000 = .outOfRange ∧
      route (gated .mbc3 7) 0xA000 = .outOfRange ∧ route (gated .mbc3 8) 0xA000 = .rtc 0 ∧
      route (gated .mbc3 12) 0xBFFF = .rtc 4 ∧ route (gated .mbc3 13) 0xA000 = .outOfRange := by decide
theorem witness_OamDmaCopies (i j : Nat) (hi : i < 160) :
    route State.reset (BitVec.ofNat 16 (256 * 0xC0 + i)) ≠ .rtc j := by
  have h : (BitVec.ofNat 16 (256 * 0xC0 + i)).toNat = 0xC000 + i := by rw [BitVec.toNat_ofNat]; omega
  unfold route
  rw [h, if_neg (by omega), if_neg (by omega), if_neg (by omega), if_neg (by omega), if_pos (by omega)]
  unfold wramPlace
  split <;> exact fun g => (by cases g)
theorem witness_IoWrites :
    ioPlain false 0x01 = true ∧ ioPlain false 0xFF = true ∧ ioPlain false 0x4D = true ∧ ioPlain true 0x4D = false ∧
      ioPlain true 0x45 = true ∧ ioPlain true 0x47 = true ∧ colour.cart.cgb = true := by decide
theorem witness_SynthesizedReads : readIo (poked State.reset 0xFF00 0xFF) 0x00 &&& 0xCF = 0 := by decide
theorem witness_SynthesizedReads_default : (readIo State.reset 0x44).toNat < 144 ∧ State.reset.cart.statMode = [] := by decide
theorem witness_SynthesizedReads_plain :
    ∀ o ∈ ([0x01, 0x40, 0x42, 0x69, 0x6B, 0xFF] : List Byte), o ≠ 0x00 ∧ o ≠ 0x41 ∧
      ¬ (State.reset.cart.cgb = true ∧ (o = 0x69 ∨ o = 0x6B)) := by decide
theorem witness_SynthesizedReads_colour :
    ∀ o ∈ ([0x01, 0x68, 0x6A, 0x6C, 0xFF] : List Byte), ¬ (colour.cart.cgb = true ∧ (o = 0x69 ∨ o = 0x6B)) := by decide
theorem witness_PalettePorts : colour.cart.cgb = true := rfl
theorem witness_HdmaControl :
    (0x7F : Byte).toNat < 128 ∧ 128 ≤ (0x80 : Byte).toNat ∧ colour.hdmaActive = false ∧
      (poked colour 0xFF55 0x80).hdmaActive = true ∧ (readIo (poked colour 0xFF55 0x80) 0x55).toNat % 128 = 0 ∧
      (poked colour 0xFF55 0xFF).hdmaActive = true ∧ (readIo (poked colour 0xFF55 0xFF) 0x55).toNat % 128 = 127 ∧
      colour.cart.cgb = true := by decide
theorem witness_HdmaControl_idle :
    State.reset.cart.cgb = false ∧ colour.hdmaActive = false ∧ colour.cart.cgb = true := by decide
theorem witness_Mbc1Commands :
    (banked .mbc1).cart.mapper = .mbc1 ∧ (0x1FFF : Word).toNat < 0x2000 ∧ 0x2000 ≤ (0x2000 : Word).toNat ∧
      (0x3FFF : Word).toNat < 0x4000 ∧ 0x4000 ≤ (0x4000 : Word).toNat ∧ (0x5FFF : Word).toNat < 0x6000 ∧
      0x6000 ≤ (0x6000 : Word).toNat ∧ (0x7FFF : Word).toNat < 0x8000 := by decide
theorem witness_MapperCommands :
    (banked .mbc2).cart.mapper = .mbc2 ∧ (banked .mbc3).cart.mapper = .mbc3 ∧ (banked .mbc5).cart.mapper = .mbc5 ∧
      (banked .noMapper).cart.mapper = .noMapper ∧ (0x0000 : Word).toNat < 0x8000 ∧ (0x7FFF : Word).toNat < 0x8000 := by decide
theorem witness_RtcAdvances_halted : bitOf (⟨0, 0, 0, 0, 0x40⟩ : RtcRegs).daysHi 6 = true := by decide
theorem witness_RtcAdvances_running :
    bitOf (⟨59, 59, 23, 0xFF, 0x01⟩ : RtcRegs).daysHi 6 = false ∧ (⟨59, 59, 23, 0xFF, 0x01⟩ : RtcRegs).normal := by
  unfold RtcRegs.normal; decide
theorem witness_RtcAdvances_outOfRange :
    bitOf (⟨70, 63, 31, 0xFF, 0x01⟩ : RtcRegs).daysHi 6 = false ∧ ¬ (⟨70, 63, 31, 0xFF, 0x01⟩ : RtcRegs).normal := by
  unfold RtcRegs.normal; decide
/-- R176 by hand: 70 + 1 seconds carry 1 minute, 63 + 1 minutes 1 hour, 31 + 1 hours 1 day, day 511 + 1 wraps with the carry. -/
theorem test_rtc_outOfRange : rtcAdvance ⟨70, 63, 31, 0xFF, 0x01⟩ 1 = ⟨11, 4, 8, 0x00, 0x80⟩ := by decide
theorem witness_CartridgeConstruction :
    ∃ s, loadCartridge (List.replicate (2 * 16384) 0x00) [] ⟨0, 0, 0, 0, 0⟩ [] 0x00 = .ok s := by
  have z : ∀ k, (List.replicate (2 * 16384) (0x00 : Byte)).getD k 0x00 = 0x00 := by
    intro k; rw [List.getD_eq_getElem?_getD, List.getElem?_replicate]; split <;> rfl
  have c : Cart.ofHeader 0x00 0x00 0x00 0x00 ⟨0, 0, 0, 0, 0⟩ [] = .ok Cart.blank := rfl
  unfold loadCartridge
  simp only [z, c]
  rw [if_pos (by rw [List.length_replicate]; rfl)]
  exact ⟨_, rfl⟩
theorem witness_CountersOverTime : State.reset.isDouble = false ∧ (readIo State.reset 0x44).toNat ≤ 153 := by decide

/-! ## Witnesses: every form table has a form in it, and each condition is met -/

theorem witness_LoadRegister : ⟨[0x40], .ldBB, (.b, .b)⟩ ∈ ldRegForms ∧ ⟨[0x06, 0xFF], .ldBN 0xFF, .b⟩ ∈ ldImmForms 0xFF :=
  ⟨by simp [ldRegForms], by simp [ldImmForms]⟩
theorem witness_LoadFromMemory :
    ⟨[0x46], .ldBMemHL, (.b, fun s => s.hl)⟩ ∈ loadForms 0x80 0xFFFF ∧ ⟨[0x3A], .ldAMemHLDec, 0xFFFF⟩ ∈ loadStepForms :=
  ⟨by simp [loadForms], by simp [loadStepForms]⟩
theorem witness_StoreToMemory :
    ⟨[0x70], .ldMemHLB, (fun s => s.hl, fun s => s.regs.b)⟩ ∈ storeForms 0x80 0xFFFF ∧
      ⟨[0x32], .ldMemHLDecA, 0xFFFF⟩ ∈ storeStepForms :=
  ⟨by simp [storeForms], by simp [storeStepForms]⟩
theorem witness_LoadPair : ⟨[0x31, 0xFF, 0xFF], .ldSPNn 0xFFFF, .sp⟩ ∈ ldPairForms 0xFFFF := by
  simp [ldPairForms]; decide
theorem witness_PushAndPop : ⟨[0xF5], .pushAF, .af⟩ ∈ pushForms ∧ ⟨[0xF1], .popAF, .af⟩ ∈ popForms :=
  ⟨by simp [pushForms], by simp [popForms]⟩
theorem witness_AddAndAdc : ⟨[0x86], .addAMemHL, .memHL⟩ ∈ addForms 0x00 ∧ ⟨[0xCE, 0xFF], .adcAN 0xFF, .imm 0xFF⟩ ∈ adcForms 0xFF :=
  ⟨by simp [addForms], by simp [adcForms]⟩
theorem witness_SubSbcAndCp :
    ⟨[0x97], .subAA, .reg .a⟩ ∈ subForms 0x00 ∧ ⟨[0x9E], .sbcAMemHL, .memHL⟩ ∈ sbcForms 0x00 ∧
      ⟨[0xB8], .cpAB, .reg .b⟩ ∈ cpForms 0x00 :=
  ⟨by simp [subForms], by simp [sbcForms], by simp [cpForms]⟩
theorem witness_AndXorOr :
    ⟨[0xA6], .andAMemHL, .memHL⟩ ∈ andForms 0x00 ∧ ⟨[0xAF], .xorAA, .reg .a⟩ ∈ xorForms 0x00 ∧
      ⟨[0xB0], .orAB, .reg .b⟩ ∈ orForms 0x00 :=
  ⟨by simp [andForms], by simp [xorForms], by simp [orForms]⟩
theorem witness_IncAndDec : ⟨[0x34], .incMemHL, .memHL⟩ ∈ incForms ∧ ⟨[0x05], .decB, .reg .b⟩ ∈ decForms :=
  ⟨by simp [incForms], by simp [decForms]⟩
theorem witness_BcdArithmetic : ({ State.reset with regs := { r0 with a := 0x99 } } : State).regs.a = bcd 99 := by decide
theorem witness_SixteenBitArithmetic :
    ⟨[0x39], .addHLSP, .sp⟩ ∈ addHLForms ∧ ⟨[0x33], .incSP, .sp⟩ ∈ incPairForms ∧ ⟨[0x0B], .decBC, .bc⟩ ∈ decPairForms :=
  ⟨by simp [addHLForms], by simp [incPairForms], by simp [decPairForms]⟩
theorem witness_DisplacementAddition :
    ⟨[0xE8, 0x80], .addSPE 0x80, .sp⟩ ∈ addSpForms 0x80 ∧ ⟨[0xF8, 0x7F], .ldHLSPE 0x7F, .hl⟩ ∈ addSpForms 0x7F :=
  ⟨by simp [addSpForms], by simp [addSpForms]⟩
theorem witness_RotatesAndShifts_rotates :
    ⟨[0xCB, 0x06], .rlcMemHL, .memHL⟩ ∈ rlcForms ∧ ⟨[0xCB, 0x09], .rrcC, .reg .c⟩ ∈ rrcForms ∧
      ⟨[0xCB, 0x15], .rlL, .reg .l⟩ ∈ rlForms ∧ ⟨[0xCB, 0x1F], .rrA, .reg .a⟩ ∈ rrForms :=
  ⟨by simp [rlcForms], by simp [rrcForms], by simp [rlForms], by simp [rrForms]⟩
theorem witness_RotatesAndShifts_shifts :
    ⟨[0xCB, 0x22], .slaD, .reg .d⟩ ∈ slaForms ∧ ⟨[0xCB, 0x2F], .sraA, .reg .a⟩ ∈ sraForms ∧
      ⟨[0xCB, 0x36], .swapMemHL, .memHL⟩ ∈ swapForms ∧ ⟨[0xCB, 0x3F], .srlA, .reg .a⟩ ∈ srlForms :=
  ⟨by simp [slaForms], by simp [sraForms], by simp [swapForms], by simp [srlForms]⟩
theorem witness_BitTest : ⟨[0xCB, 0x46], .bit0MemHL, (0, .memHL)⟩ ∈ bitForms := by simp [bitForms]
theorem witness_ResetAndSetBit :
    ⟨[0xCB, 0x87], .res0A, (0, .reg .a)⟩ ∈ resForms ∧ ⟨[0xCB, 0xFE], .set7MemHL, (7, .memHL)⟩ ∈ setForms :=
  ⟨by simp [resForms], by simp [setForms]⟩
theorem witness_Jumps :
    ⟨[0xC2, 0x00, 0x02], .jpNZNn 0x0200, .nz⟩ ∈ jpIfForms 0x0200 ∧ ⟨[0x38, 0x80], .jrCE 0x80, .c⟩ ∈ jrIfForms 0x80 ∧
      condTrue 0x00 .nz ∧ ¬ condTrue 0x80 .nz ∧ condTrue 0x80 .z ∧ condTrue 0x00 .nc ∧ condTrue 0x10 .c ∧ ¬ condTrue 0x00 .c :=
  ⟨by simp [jpIfForms]; decide, by simp [jrIfForms], by unfold condTrue; decide, by unfold condTrue; decide,
    by unfold condTrue; decide, by unfold condTrue; decide, by unfold condTrue; decide, by unfold condTrue; decide⟩
theorem witness_CallsAndRestarts :
    ⟨[0xDC, 0x00, 0x02], .callCNn 0x0200, .c⟩ ∈ callIfForms 0x0200 ∧ ⟨[0xFF], .rst38, 0x0038⟩ ∈ rstForms :=
  ⟨by simp [callIfForms]; decide, by simp [rstForms]⟩
theorem witness_Returns : ⟨[0xD8], .retC, .c⟩ ∈ retIfForms := by simp [retIfForms]
theorem witness_SystemInstructions :
    colour.cart.cgb = true ∧ bitOf (readIo colour 0x4D) 0 = true ∧
      ¬ (State.reset.cart.cgb = true ∧ bitOf (readIo State.reset 0x4D) 0 = true) := by decide
theorem witness_SystemInstructions_illegal : ⟨[0xFD], .illegalFD, 0xFD⟩ ∈ illegalForms := by simp [illegalForms]

end Sys2Proof.Machine
end

section
/-! One Dispatcher iteration keeps the parameters of the machine (00_scope.md R6, 10_state.md R37): `SameParameters` holds of
every part of a step, and so of the step. -/

namespace Sys2Proof.Machine

/-- Both iterations of a halted machine, the wait and the wake (R411), keep the parameters. -/
theorem sameParameters_haltedIteration (s : State) : SameParameters s (haltedIteration s) := by
  have wake : SameParameters s { s with mode := .running } := ⟨rfl, rfl, rfl, rfl⟩
  unfold haltedIteration; split
  · exact sameParameters_countAndTick s
  · exact wake.trans (sameParameters_post _)

/-- R410: a running machine keeps the parameters in the fetch, in the instruction and in what completes it; a halted one in its
iteration. -/
theorem sameParameters_step {s t : State} (h : step s = .next t) : SameParameters s t := by
  cases hm : s.mode with
  | running =>
    obtain ⟨u, -, effect, hu⟩ := step_running hm
    obtain rfl : complete u = t := Host.Outcome.next.inj (hu.symm.trans h)
    exact ((calm_fetch s).sameParameters.trans effect.sameParameters).trans (sameParameters_complete u)
  | halted =>
    obtain rfl : haltedIteration s = t := Host.Outcome.next.inj ((step_halted hm).symm.trans h)
    exact sameParameters_haltedIteration s

/-- A ROM byte is a function of the image that the cartridge brought and of the count of resets. -/
theorem SameParameters.readRom {s t : State} (h : SameParameters s t) (k : Nat) : readCell t .rom k = readCell s .rom k := by
  simp only [readCell, Mem.get, h.rom, h.resets]

/-- Settles O9: no part of a step writes a parameter, and the ROM bytes are read from the parameters. -/
theorem parametersNeverChange : Obligations.ParametersNeverChange := by
  intro s t h
  have same := sameParameters_step h
  exact ⟨same.cart, same.joypad, same.resets, same.readRom⟩

end Sys2Proof.Machine
end

section
/-! The control state of 10_state.md section 4: which instruction writes which of its fields, and what a step does to `clock` and
to the mode (60_exceptions.md R410, R411). -/

namespace Sys2Proof.Machine

/-- Settles O17: it is the part of `Effect` that speaks of the control state. -/
theorem controlStateWriters : Obligations.ControlStateWriters := by
  intro i s t h
  obtain ⟨u, hu, effect⟩ := exec_answers i s
  obtain rfl : u = t := Host.Outcome.next.inj (hu.symm.trans h)
  exact ⟨effect.ime, effect.eiDelay, effect.mode, effect.doubleSpeed, effect.clock⟩

/-- R410: after `HALT` nothing more is done. -/
theorem complete_halted {s : State} (h : s.mode = .halted) : complete s = s := by
  unfold complete; rw [h]

/-- R410: after every other instruction the post-instruction step is done. -/
theorem complete_running {s : State} (h : s.mode = .running) : complete s = post s := by
  unfold complete; rw [h]

/-- R361, R410: the step that executes `HALT` halts the machine and counts nothing. -/
theorem step_halt {s t : State} (hm : s.mode = .running) (hi : (fetch s).1 = .halt) (h : step s = .next t) :
    t.mode = .halted ∧ t.clock = s.clock := by
  obtain ⟨u, hu, -, hs⟩ := step_running hm
  rw [hi] at hu
  obtain rfl : { (fetch s).2 with mode := .halted } = u := Host.Outcome.next.inj hu
  obtain rfl := Host.Outcome.next.inj (hs.symm.trans h)
  rw [complete_halted rfl]
  exact ⟨rfl, (calm_fetch s).clock⟩

/-- R410: the step that executes any other instruction leaves the machine running and counts 1. -/
theorem step_not_halt {s t : State} (hm : s.mode = .running) (hi : (fetch s).1 ≠ .halt) (h : step s = .next t) :
    t.mode = .running ∧ t.clock = s.clock + 1 := by
  obtain ⟨u, -, effect, hs⟩ := step_running hm
  have hu : u.mode = .running := ((effect.mode hi).trans (calm_fetch s).mode).trans hm
  obtain rfl := Host.Outcome.next.inj (hs.symm.trans h)
  rw [complete_running hu, post_mode, post_clock, effect.clock, (calm_fetch s).clock]
  exact ⟨hu, rfl⟩

/-- R411: a waiting machine goes on waiting while the IF byte is zero, wakes when it is not, and counts 1 in both iterations. -/
theorem step_waiting {s t : State} (hm : s.mode = .halted) (h : step s = .next t) :
    (t.mode = .halted ↔ readIo s 0x0F = 0) ∧ t.clock = s.clock + 1 := by
  obtain rfl := Host.Outcome.next.inj ((step_halted hm).symm.trans h)
  unfold haltedIteration
  split
  case isTrue wait => exact ⟨iff_of_true ((countAndTick_mode s).trans hm) wait, countAndTick_clock s⟩
  case isFalse wake => exact ⟨iff_of_false (by simp [post_mode]) wake, post_clock _⟩

/-- Settles O10: there are three kinds of step, a `HALT`, another instruction and an iteration of a waiting machine, and on each
both clauses are what the lemma on that kind says. -/
theorem clockAndMode : Obligations.ClockAndMode := by
  refine ⟨fun s t h => ?_, fun s t h => ?_⟩ <;> cases hm : s.mode
  case refine_1.running =>
    exact ⟨fun hi => (step_halt hm hi.2 h).2, fun hi => (step_not_halt hm (fun g => hi ⟨rfl, g⟩) h).2⟩
  case refine_1.halted => exact ⟨fun hi => absurd hi.1 (by decide), fun _ => (step_waiting hm h).2⟩
  case refine_2.running =>
    by_cases hi : (fetch s).1 = .halt
    · simp [hi, (step_halt hm hi h).1]
    · simp [hi, (step_not_halt hm hi h).1]
  case refine_2.halted => simp [(step_waiting hm h).1]

end Sys2Proof.Machine
end

section
/-! The register views of 10_state.md section 1 (R20, R22, R23), and what the host reads back of what it sets (60_exceptions.md
R424, D58). -/

namespace Sys2Proof.Machine

/-- The low byte of a word, as a word. -/
theorem loByte_setWidth (w : Word) : (loByte w).setWidth 16 = w &&& 0x00FF := by
  apply BitVec.eq_of_toNat_eq
  have mask : w.toNat &&& 255 = w.toNat % 256 := Nat.and_two_pow_sub_one_eq_mod w.toNat 8
  simp [mask]
  omega

/-- R23: the low byte of a word with its low nibble masked, as a word. -/
theorem loByte_masked_setWidth (w : Word) : (loByte w &&& 0xF0).setWidth 16 = w &&& 0x00F0 := by
  rw [BitVec.setWidth_and, loByte_setWidth, BitVec.and_assoc]
  rfl

/-- R22, R23: a pair written is read back, AF with the low nibble of F zero. -/
theorem get16_set16_masked (g : Regs) (p : Pair) (w : Word) :
    (g.set16 p w).get16 p = if p = .af then w &&& 0xFFF0 else w := by
  by_cases h : p = .af
  · subst h; exact get16_set16_af g w
  · rw [if_neg h, get16_set16 g p w h]

/-- R424: the host's set changes registers only. -/
theorem sameButRegs_hostSet (s : State) (r : HostReg) (w : Word) : sameButRegs s (hostSet s r w) := by
  cases r <;> exact ⟨rfl, fun _ _ => rfl⟩

/-- Settles O38: the pair views by the arithmetic of the two bytes of a word, the host's accessors by the width of each. -/
theorem registerViews : Obligations.RegisterViews := by
  refine ⟨fun g w v => ⟨fun p => get16_set16_masked g p w, ?_⟩, fun s r w => ⟨sameButRegs_hostSet s r w, ?_⟩⟩
  · have halves : (hiByte w).toNat = w.toNat / 256 ∧ (loByte w).toNat = w.toNat % 256 := ⟨hiByte_toNat w, loByte_toNat w⟩
    have masked : (loByte w &&& 0xF0).toNat = w.toNat % 256 / 16 * 16 := by rw [and_F0_toNat, loByte_toNat]
    exact ⟨halves, halves, halves, ⟨halves.1, masked⟩, ⟨joinBytes_toNat v _, joinBytes_toNat _ v⟩,
      ⟨joinBytes_toNat v _, joinBytes_toNat _ v⟩, ⟨joinBytes_toNat v _, joinBytes_toNat _ v⟩, joinBytes_toNat v _⟩
  · cases r with
    | a | b | c | d | e | h | l => exact loByte_setWidth w
    | f => exact loByte_masked_setWidth w
    | sp | pc => rfl
    | bc | de | hl => exact joinBytes_hi_lo w
    | af => exact joinBytes_af w

end Sys2Proof.Machine
end

section
/-! R29 of 10_state.md over the whole instruction set: an instruction is a row of the flag-writing tables, or the state it answers
has the F it was given. -/

namespace Sys2Proof.Machine

/-- The outcome is a next state that has the F of `s`. -/
def KeepsFlags (s : State) (r : Result) : Prop := ∃ t, r = .next t ∧ t.regs.f = s.regs.f

/-- A write of a pair other than AF leaves F alone. -/
theorem set16_f (g : Regs) {p : Pair} (w : Word) (h : p ≠ .af) : (g.set16 p w).f = g.f := by
  cases p
  case af => exact absurd rfl h
  all_goals rfl

theorem call_f (s : State) (w : Word) : (call s w).regs.f = s.regs.f := by simp [call]

theorem popPc_f (s : State) : (popPc s).regs.f = s.regs.f := by simp [popPc]

theorem writeTarget_f (s : State) (t : Target) (v : Byte) : (writeTarget s t v).regs.f = s.regs.f := by
  cases t <;> simp [writeTarget]

section
variable (s : State)

theorem keepsFlags_opLoadReg (r q : Reg8) : KeepsFlags s (opLoadReg r q s) := ⟨_, rfl, set8_f _ _ _⟩
theorem keepsFlags_opLoadImm (r : Reg8) (n : Byte) : KeepsFlags s (opLoadImm r n s) := ⟨_, rfl, set8_f _ _ _⟩
theorem keepsFlags_opLoadMemHL (r : Reg8) : KeepsFlags s (opLoadMemHL r s) := ⟨_, rfl, by simp⟩
theorem keepsFlags_opLoadA (a : Word) : KeepsFlags s (opLoadA a s) := ⟨_, rfl, by simp⟩
theorem keepsFlags_opLoadStep (d : Word) : KeepsFlags s (opLoadStep d s) := ⟨_, rfl, by simp⟩
theorem keepsFlags_opStoreMemHL (r : Reg8) : KeepsFlags s (opStoreMemHL r s) := ⟨_, rfl, by simp⟩
theorem keepsFlags_opStoreA (a : Word) : KeepsFlags s (opStoreA a s) := ⟨_, rfl, by simp⟩
theorem keepsFlags_opStoreStep (d : Word) : KeepsFlags s (opStoreStep d s) := ⟨_, rfl, by simp⟩
theorem keepsFlags_opLoadPair {p : Pair} (w : Word) (h : p ≠ .af) : KeepsFlags s (opLoadPair p w s) :=
  ⟨_, rfl, set16_f _ _ h⟩
theorem keepsFlags_opIncPair {p : Pair} (h : p ≠ .af) : KeepsFlags s (opIncPair p s) := ⟨_, rfl, set16_f _ _ h⟩
theorem keepsFlags_opDecPair {p : Pair} (h : p ≠ .af) : KeepsFlags s (opDecPair p s) := ⟨_, rfl, set16_f _ _ h⟩
theorem keepsFlags_opPush (p : Pair) : KeepsFlags s (opPush p s) := ⟨_, rfl, by simp⟩
theorem keepsFlags_opPop {p : Pair} (h : p ≠ .af) : KeepsFlags s (opPop p s) := ⟨_, rfl, by simp [set16_f _ _ h]⟩
theorem keepsFlags_opRes (b : Nat) (t : Target) : KeepsFlags s (opRes b t s) :=
  ⟨_, rfl, by rw [writeTarget_f, readTarget_regs]⟩
theorem keepsFlags_opSet (b : Nat) (t : Target) : KeepsFlags s (opSet b t s) :=
  ⟨_, rfl, by rw [writeTarget_f, readTarget_regs]⟩
theorem keepsFlags_if (c : Bool) {t : State} (h : t.regs.f = s.regs.f) : KeepsFlags s (.next (if c then t else s)) :=
  ⟨_, rfl, by cases c; exacts [rfl, h]⟩
theorem keepsFlags_opJpIf (cc : Cond) (w : Word) : KeepsFlags s (opJpIf cc w s) := keepsFlags_if s _ rfl
theorem keepsFlags_opJrIf (cc : Cond) (e : Byte) : KeepsFlags s (opJrIf cc e s) := keepsFlags_if s _ rfl
theorem keepsFlags_opCallIf (cc : Cond) (w : Word) : KeepsFlags s (opCallIf cc w s) := keepsFlags_if s _ (call_f s w)
theorem keepsFlags_opRetIf (cc : Cond) : KeepsFlags s (opRetIf cc s) := keepsFlags_if s _ (popPc_f s)
theorem keepsFlags_opRst (w : Word) : KeepsFlags s (opRst w s) := ⟨_, rfl, call_f s w⟩
theorem keepsFlags_opIllegal (b : Byte) : KeepsFlags s (opIllegal b s) := ⟨_, rfl, rfl⟩
theorem keepsFlags_stop (b : Byte) : KeepsFlags s (exec (.stop b) s) :=
  ⟨_, rfl, by unfold speedSwitch; split <;> rfl⟩

end

/-- R29: the instruction writes flags, with some operands `n` and `e`. -/
def FlagWriter (i : Instr) : Prop := ∃ n e, i ∈ flagWriters n e

section
variable {i : Instr}

theorem addOrSub_flagWriter (n : Byte) (h : i ∈ (addForms n ++ adcForms n ++ subForms n ++ sbcForms n).map (·.instr)) :
    FlagWriter i := ⟨n, 0, by simp only [flagWriters, List.mem_append, h, true_or]⟩
theorem logicOrCp_flagWriter (n : Byte) (h : i ∈ (andForms n ++ xorForms n ++ orForms n ++ cpForms n).map (·.instr)) :
    FlagWriter i := ⟨n, 0, by simp only [flagWriters, List.mem_append, h, true_or, or_true]⟩
theorem incOrDec_flagWriter (h : i ∈ (incForms ++ decForms).map (·.instr)) : FlagWriter i :=
  ⟨0, 0, by simp only [flagWriters, List.mem_append, h, true_or, or_true]⟩
theorem addHL_flagWriter (h : i ∈ addHLForms.map (·.instr)) : FlagWriter i :=
  ⟨0, 0, by simp only [flagWriters, List.mem_append, h, true_or, or_true]⟩
theorem addSp_flagWriter (e : Byte) (h : i ∈ (addSpForms e).map (·.instr)) : FlagWriter i :=
  ⟨0, e, by simp only [flagWriters, List.mem_append, h, true_or, or_true]⟩
theorem rotate_flagWriter (h : i ∈ (rlcForms ++ rrcForms ++ rlForms ++ rrForms).map (·.instr)) : FlagWriter i :=
  ⟨0, 0, by simp only [flagWriters, List.mem_append, h, true_or, or_true]⟩
theorem shift_flagWriter (h : i ∈ (slaForms ++ sraForms ++ swapForms ++ srlForms).map (·.instr)) : FlagWriter i :=
  ⟨0, 0, by simp only [flagWriters, List.mem_append, h, true_or, or_true]⟩
theorem bit_flagWriter (h : i ∈ bitForms.map (·.instr)) : FlagWriter i :=
  ⟨0, 0, by simp only [flagWriters, List.mem_append, h, true_or, or_true]⟩
theorem single_flagWriter (h : i ∈ ([.rlca, .rrca, .rla, .rra, .daa, .cpl, .scf, .ccf, .popAF] : List Instr)) :
    FlagWriter i := ⟨0, 0, by simp only [flagWriters, List.mem_append, h, or_true]⟩

end

/-- Every instruction is one of the flag-writing ones of R29, or answers a state with the same F. -/
theorem flagWriter_or_keepsFlags (i : Instr) (s : State) : FlagWriter i ∨ KeepsFlags s (exec i s) := by
  cases i with
  | nop | halt | di | ei => exact .inr ⟨_, rfl, rfl⟩
  | stop _ => exact .inr (keepsFlags_stop s _)
  | ldBB | ldBC | ldBD | ldBE | ldBH | ldBL | ldBA | ldCB | ldCC | ldCD | ldCE | ldCH | ldCL | ldCA | ldDB | ldDC
  | ldDD | ldDE | ldDH | ldDL | ldDA | ldEB | ldEC | ldED | ldEE | ldEH | ldEL | ldEA | ldHB | ldHC | ldHD | ldHE
  | ldHH | ldHL | ldHA | ldLB | ldLC | ldLD | ldLE | ldLH | ldLL | ldLA | ldAB | ldAC | ldAD | ldAE | ldAH | ldAL
  | ldAA => exact .inr (keepsFlags_opLoadReg s _ _)
  | ldBN _ | ldCN _ | ldDN _ | ldEN _ | ldHN _ | ldLN _ | ldAN _ => exact .inr (keepsFlags_opLoadImm s _ _)
  | ldBMemHL | ldCMemHL | ldDMemHL | ldEMemHL | ldHMemHL | ldLMemHL | ldAMemHL => exact .inr (keepsFlags_opLoadMemHL s _)
  | ldAMemBC | ldAMemDE | ldhAMemN _ | ldhAMemC | ldAMemNn _ => exact .inr (keepsFlags_opLoadA s _)
  | ldAMemHLInc | ldAMemHLDec => exact .inr (keepsFlags_opLoadStep s _)
  | ldMemHLB | ldMemHLC | ldMemHLD | ldMemHLE | ldMemHLH | ldMemHLL | ldMemHLA => exact .inr (keepsFlags_opStoreMemHL s _)
  | ldMemBCA | ldMemDEA | ldhMemNA _ | ldhMemCA | ldMemNnA _ => exact .inr (keepsFlags_opStoreA s _)
  | ldMemHLIncA | ldMemHLDecA => exact .inr (keepsFlags_opStoreStep s _)
  | ldMemHLN _ => exact .inr ⟨_, rfl, by simp⟩
  | ldMemNnSP _ => exact .inr ⟨_, rfl, by simp [busWrite16]⟩
  | ldBCNn _ | ldDENn _ | ldHLNn _ | ldSPNn _ => exact .inr (keepsFlags_opLoadPair s _ (by decide))
  | incBC | incDE | incHL | incSP => exact .inr (keepsFlags_opIncPair s (by decide))
  | decBC | decDE | decHL | decSP => exact .inr (keepsFlags_opDecPair s (by decide))
  | ldSPHL | jrE _ | jpNn _ | jpHL => exact .inr ⟨_, rfl, rfl⟩
  | pushBC | pushDE | pushHL | pushAF => exact .inr (keepsFlags_opPush s _)
  | popBC | popDE | popHL => exact .inr (keepsFlags_opPop s (by decide))
  | jpNZNn _ | jpZNn _ | jpNCNn _ | jpCNn _ => exact .inr (keepsFlags_opJpIf s _ _)
  | jrNZE _ | jrZE _ | jrNCE _ | jrCE _ => exact .inr (keepsFlags_opJrIf s _ _)
  | callNZNn _ | callZNn _ | callNCNn _ | callCNn _ => exact .inr (keepsFlags_opCallIf s _ _)
  | retNZ | retZ | retNC | retC => exact .inr (keepsFlags_opRetIf s _)
  | rst00 | rst08 | rst10 | rst18 | rst20 | rst28 | rst30 | rst38 => exact .inr (keepsFlags_opRst s _)
  | callNn _ => exact .inr ⟨_, rfl, call_f s _⟩
  | ret => exact .inr ⟨_, rfl, popPc_f s⟩
  | reti => exact .inr ⟨_, rfl, by simp [interruptReturn]⟩
  | illegalD3 | illegalDB | illegalDD | illegalE3 | illegalE4 | illegalEB | illegalEC | illegalED | illegalF4
  | illegalFC | illegalFD => exact .inr (keepsFlags_opIllegal s _)
  | res0B | res0C | res0D | res0E | res0H | res0L | res0MemHL | res0A | res1B | res1C | res1D | res1E | res1H | res1L
  | res1MemHL | res1A | res2B | res2C | res2D | res2E | res2H | res2L | res2MemHL | res2A | res3B | res3C | res3D
  | res3E | res3H | res3L | res3MemHL | res3A | res4B | res4C | res4D | res4E | res4H | res4L | res4MemHL | res4A
  | res5B | res5C | res5D | res5E | res5H | res5L | res5MemHL | res5A | res6B | res6C | res6D | res6E | res6H | res6L
  | res6MemHL | res6A | res7B | res7C | res7D | res7E | res7H | res7L | res7MemHL | res7A =>
    exact .inr (keepsFlags_opRes s _ _)
  | set0B | set0C | set0D | set0E | set0H | set0L | set0MemHL | set0A | set1B | set1C | set1D | set1E | set1H | set1L
  | set1MemHL | set1A | set2B | set2C | set2D | set2E | set2H | set2L | set2MemHL | set2A | set3B | set3C | set3D
  | set3E | set3H | set3L | set3MemHL | set3A | set4B | set4C | set4D | set4E | set4H | set4L | set4MemHL | set4A
  | set5B | set5C | set5D | set5E | set5H | set5L | set5MemHL | set5A | set6B | set6C | set6D | set6E | set6H | set6L
  | set6MemHL | set6A | set7B | set7C | set7D | set7E | set7H | set7L | set7MemHL | set7A =>
    exact .inr (keepsFlags_opSet s _ _)
  | addAB | addAC | addAD | addAE | addAH | addAL | addAMemHL | addAA | adcAB | adcAC | adcAD | adcAE | adcAH | adcAL
  | adcAMemHL | adcAA | subAB | subAC | subAD | subAE | subAH | subAL | subAMemHL | subAA | sbcAB | sbcAC | sbcAD
  | sbcAE | sbcAH | sbcAL | sbcAMemHL | sbcAA => exact .inl (addOrSub_flagWriter 0 (by decide +kernel))
  | andAB | andAC | andAD | andAE | andAH | andAL | andAMemHL | andAA | xorAB | xorAC | xorAD | xorAE | xorAH | xorAL
  | xorAMemHL | xorAA | orAB | orAC | orAD | orAE | orAH | orAL | orAMemHL | orAA | cpAB | cpAC | cpAD | cpAE | cpAH
  | cpAL | cpAMemHL | cpAA => exact .inl (logicOrCp_flagWriter 0 (by decide +kernel))
  | addAN n | adcAN n | subAN n | sbcAN n =>
    exact .inl (addOrSub_flagWriter n (by simp [addForms, adcForms, subForms, sbcForms]))
  | andAN n | xorAN n | orAN n | cpAN n =>
    exact .inl (logicOrCp_flagWriter n (by simp [andForms, xorForms, orForms, cpForms]))
  | incB | incC | incD | incE | incH | incL | incMemHL | incA | decB | decC | decD | decE | decH | decL | decMemHL
  | decA => exact .inl (incOrDec_flagWriter (by decide +kernel))
  | addHLBC | addHLDE | addHLHL | addHLSP => exact .inl (addHL_flagWriter (by decide +kernel))
  | addSPE e | ldHLSPE e => exact .inl (addSp_flagWriter e (by simp [addSpForms]))
  | rlcB | rlcC | rlcD | rlcE | rlcH | rlcL | rlcMemHL | rlcA | rrcB | rrcC | rrcD | rrcE | rrcH | rrcL | rrcMemHL
  | rrcA | rlB | rlC | rlD | rlE | rlH | rlL | rlMemHL | rlA | rrB | rrC | rrD | rrE | rrH | rrL | rrMemHL | rrA =>
    exact .inl (rotate_flagWriter (by decide +kernel))
  | slaB | slaC | slaD | slaE | slaH | slaL | slaMemHL | slaA | sraB | sraC | sraD | sraE | sraH | sraL | sraMemHL
  | sraA | swapB | swapC | swapD | swapE | swapH | swapL | swapMemHL | swapA | srlB | srlC | srlD | srlE | srlH
  | srlL | srlMemHL | srlA => exact .inl (shift_flagWriter (by decide +kernel))
  | bit0B | bit0C | bit0D | bit0E | bit0H | bit0L | bit0MemHL | bit0A | bit1B | bit1C | bit1D | bit1E | bit1H | bit1L
  | bit1MemHL | bit1A | bit2B | bit2C | bit2D | bit2E | bit2H | bit2L | bit2MemHL | bit2A | bit3B | bit3C | bit3D
  | bit3E | bit3H | bit3L | bit3MemHL | bit3A | bit4B | bit4C | bit4D | bit4E | bit4H | bit4L | bit4MemHL | bit4A
  | bit5B | bit5C | bit5D | bit5E | bit5H | bit5L | bit5MemHL | bit5A | bit6B | bit6C | bit6D | bit6E | bit6H | bit6L
  | bit6MemHL | bit6A | bit7B | bit7C | bit7D | bit7E | bit7H | bit7L | bit7MemHL | bit7A =>
    exact .inl (bit_flagWriter (by decide +kernel))
  | rlca | rrca | rla | rra | daa | cpl | scf | ccf | popAF => exact .inl (single_flagWriter (by decide +kernel))

/-- Settles O18: an instruction outside R29's list keeps F, and so does the post-instruction step, whose interrupt entry and tick
write no F. -/
theorem flagWriters_complete : Obligations.FlagWriters := by
  refine ⟨fun i s t hi h => ?_, post_f⟩
  rcases flagWriter_or_keepsFlags i s with ⟨n, e, writer⟩ | ⟨u, hu, keeps⟩
  · exact absurd writer (hi n e)
  · obtain rfl : u = t := Host.Outcome.next.inj (hu.symm.trans h)
    exact keeps

end Sys2Proof.Machine
end

section
/-! What an address resolves to (20_memory.md R61), range by range, and what a read and a write do there (R62, R78): the memory map
and the frame of a bus read. -/

namespace Sys2Proof.Machine

/-! The places a bus access acts on. -/

section
variable {s : State} {a : Word}

/-- R80: a read of a byte cell gives the byte and changes nothing. -/
theorem busRead_cell {r : Region} {k : Nat} (h : route s a = .cell r k) : busRead s a = (readCell s r k, s) := by
  simp only [busRead, h]

theorem busRead_nibble {k : Nat} (h : route s a = .nibble k) : busRead s a = (0xF0 ||| readCell s .cram k, s) := by
  simp only [busRead, h]

theorem busRead_rtc {i : Nat} (h : route s a = .rtc i) : busRead s a = ((rtcUpdate s).rtc.read i, rtcUpdate s) := by
  simp only [busRead, h]

theorem busRead_disabled (h : route s a = .disabled) : busRead s a = (0xFF, s) := by
  simp only [busRead, h, disabledRamRead]

/-- R73, D40: a read outside a populated region gives 0xFF and is reported. -/
theorem busRead_outOfRange (h : route s a = .outOfRange) : busRead s a = (0xFF, report s (.outOfRange a)) := by
  simp only [busRead, h]

theorem busRead_unmapped (h : route s a = .unmapped) : busRead s a = (0xFF, s) := by
  simp only [busRead, h]

theorem busRead_io {o : Byte} (h : route s a = .io o) : busRead s a = (ioRead s o, s) := by
  simp only [busRead, h]

/-- R62: from 0x8000 on, a write at a byte cell is a store there. -/
theorem busWrite_cell {r : Region} {k : Nat} (v : Byte) (ha : 0x8000 ≤ a.toNat) (h : route s a = .cell r k) :
    busWrite s a v = writeCell s r k v := by
  rw [busWrite_place v ha, h]; rfl

theorem busWrite_unmapped (v : Byte) (ha : 0x8000 ≤ a.toNat) (h : route s a = .unmapped) : busWrite s a v = s := by
  rw [busWrite_place v ha, h]; rfl

theorem busWrite_io {o : Byte} (v : Byte) (ha : 0x8000 ≤ a.toNat) (h : route s a = .io o) :
    busWrite s a v = ioWrite s o v := by
  rw [busWrite_place v ha, h]; rfl

end

/-- Settles O19: no read changes a cell, and what each kind of place answers is the lemma on that place. -/
theorem busReadFrame : Obligations.BusReadFrame := by
  intro s a
  refine ⟨readCell_busRead s a, ?_⟩
  cases h : route s a with
  | cell r k => exact congrArg Prod.snd (busRead_cell h)
  | nibble k => exact congrArg Prod.snd (busRead_nibble h)
  | rtc i => exact busRead_rtc h
  | disabled => exact congrArg Prod.snd (busRead_disabled h)
  | outOfRange => exact busRead_outOfRange h
  | unmapped => exact congrArg Prod.snd (busRead_unmapped h)
  | io o => exact congrArg Prod.snd (busRead_io h)

/-! The ranges of the table of R61. -/

section
variable {s : State} {a : Word}

/-- R63. -/
theorem route_fixedRom (hi : a.toNat < 0x4000) : route s a = .cell .rom a.toNat := by
  unfold route; rw [if_pos hi]

/-- R64. -/
theorem route_switchableRom (lo : 0x4000 ≤ a.toNat) (hi : a.toNat < 0x8000) : route s a = romWindow s a.toNat := by
  unfold route; rw [if_neg (by omega), if_pos hi]

/-- R66. -/
theorem route_vram (lo : 0x8000 ≤ a.toNat) (hi : a.toNat < 0xA000) :
    route s a = .cell .vram (vramBankOf s * 0x2000 + (a.toNat - 0x8000)) := by
  unfold route; rw [if_neg (by omega), if_neg (by omega), if_pos hi]

/-- R67. -/
theorem route_cartRam (lo : 0xA000 ≤ a.toNat) (hi : a.toNat < 0xC000) : route s a = cartRamPlace s a.toNat := by
  unfold route; rw [if_neg (by omega), if_neg (by omega), if_neg (by omega), if_pos hi]

/-- R68. -/
theorem route_wram (lo : 0xC000 ≤ a.toNat) (hi : a.toNat < 0xE000) : route s a = wramPlace s (a.toNat - 0xC000) := by
  unfold route; rw [if_neg (by omega), if_neg (by omega), if_neg (by omega), if_neg (by omega), if_pos hi]

/-- R69. -/
theorem route_echo (lo : 0xE000 ≤ a.toNat) (hi : a.toNat < 0xFE00) : route s a = wramPlace s (a.toNat - 0xE000) := by
  unfold route
  rw [if_neg (by omega), if_neg (by omega), if_neg (by omega), if_neg (by omega), if_neg (by omega), if_pos hi]

/-- R70. -/
theorem route_oam (lo : 0xFE00 ≤ a.toNat) (hi : a.toNat < 0xFEA0) : route s a = .cell .oam (a.toNat - 0xFE00) := by
  unfold route
  rw [if_neg (by omega), if_neg (by omega), if_neg (by omega), if_neg (by omega), if_neg (by omega), if_neg (by omega),
    if_pos hi]

/-- R71. -/
theorem route_unmapped (lo : 0xFEA0 ≤ a.toNat) (hi : a.toNat < 0xFF00) : route s a = .unmapped := by
  unfold route
  rw [if_neg (by omega), if_neg (by omega), if_neg (by omega), if_neg (by omega), if_neg (by omega), if_neg (by omega),
    if_neg (by omega), if_pos hi]

/-- R72. -/
theorem route_io (lo : 0xFF00 ≤ a.toNat) : route s a = .io (BitVec.ofNat 8 a.toNat) := by
  unfold route
  rw [if_neg (by omega), if_neg (by omega), if_neg (by omega), if_neg (by omega), if_neg (by omega), if_neg (by omega),
    if_neg (by omega), if_neg (by omega)]

end

/-- R68: the lower 4 KiB of Work RAM. -/
theorem wramPlace_fixed (s : State) {n : Nat} (h : n < 0x1000) : wramPlace s n = .cell .wram n := by
  unfold wramPlace; rw [if_pos h]

/-- R68: the banked 4 KiB of Work RAM. -/
theorem wramPlace_banked (s : State) {n : Nat} (h : 0x1000 ≤ n) :
    wramPlace s n = .cell .wram (wramBankOf s * 0x1000 + (n - 0x1000)) := by
  unfold wramPlace; rw [if_neg (by omega)]

/-- From 0x8000 on, the read and the write at a byte cell are those of the cell. -/
theorem access_cell {s : State} {a : Word} {r : Region} {k : Nat} (v : Byte) (ha : 0x8000 ≤ a.toNat)
    (h : route s a = .cell r k) : busRead s a = (readCell s r k, s) ∧ busWrite s a v = writeCell s r k v :=
  ⟨busRead_cell h, busWrite_cell v ha h⟩

/-- Settles O23: each range resolves to what the table of R61 says, and an access acts on that place. -/
theorem memoryMap : Obligations.MemoryMap := by
  refine ⟨fun s a => ⟨fun hi => busRead_cell (route_fixedRom hi), fun lo hi => ⟨fun inside => ?_, fun outside => ?_⟩⟩,
    fun s a v => ⟨fun lo hi => ?vram, fun lo hi => ?wram, fun lo hi => ?wramBanked, fun lo hi => ?oam, fun lo hi => ?unmapped⟩⟩
  · refine busRead_cell ((route_switchableRom lo hi).trans ?_)
    exact if_pos inside
  · refine busRead_outOfRange ((route_switchableRom lo hi).trans ?_)
    exact if_neg (Nat.not_lt.2 outside)
  case vram => exact access_cell v lo (route_vram lo hi)
  case wram =>
    exact access_cell v (by omega) ((route_wram lo (by omega)).trans (wramPlace_fixed s (by omega)))
  case wramBanked =>
    have place := (route_wram (s := s) (by omega) hi).trans (wramPlace_banked s (by omega))
    rw [Nat.sub_sub] at place
    exact access_cell v (by omega) place
  case oam => exact access_cell v (by omega) (route_oam lo hi)
  case unmapped =>
    have place := route_unmapped (s := s) lo hi
    exact ⟨busRead_unmapped place, busWrite_unmapped v (by omega) place⟩

end Sys2Proof.Machine
end

section
/-! Plain memory (20_memory.md R80): the cell behind an address, the bytes that a store there leaves as they were, the echo (R69) and
the stack (R75, 42_load16_stack.md R285, R286). -/

namespace Sys2Proof.Machine

/-- What the table of R61 and the mapper families of R170 say of the place behind the address `n`: a byte cell keeps the low
byte of the address as that of its index, it is a ROM cell exactly below 0x8000, and it is not a byte of cartridge RAM where
that RAM has 4-bit cells; the I/O file has one offset for each address. -/
def Place.Behind (mapper : Mapper) (n : Nat) : Place → Prop
  | .cell r k => k % 256 = n % 256 ∧ (r = .rom ↔ n < 0x8000) ∧ (r = .cram → mapper ≠ .mbc2) ∧
      r ≠ .io ∧ r ≠ .bgPal ∧ r ≠ .objPal
  | .nibble _ => mapper = .mbc2
  | .io o => o.toNat = n % 256 ∧ 0x8000 ≤ n
  | _ => True

theorem romWindow_behind (s : State) {n : Nat} (lo : 0x4000 ≤ n) (hi : n < 0x8000) :
    (romWindow s n).Behind s.cart.mapper n := by
  unfold romWindow; dsimp only
  split
  · exact ⟨by omega, iff_of_true rfl hi, by simp⟩
  · trivial

theorem cramCell_behind (s : State) {i n : Nat} (index : i % 256 = n % 256) (lo : 0xA000 ≤ n) (h : s.cart.mapper ≠ .mbc2) :
    (cramCell s i).Behind s.cart.mapper n := by
  unfold cramCell
  split
  · exact ⟨index, iff_of_false (by decide) (by omega), by simp [h]⟩
  · trivial

theorem cartRamPlace_behind (s : State) {n : Nat} (lo : 0xA000 ≤ n) : (cartRamPlace s n).Behind s.cart.mapper n := by
  have byteWide : ∀ b, s.cart.mapper ≠ .mbc2 → (cramCell s (b * 0x2000 + (n - 0xA000))).Behind s.cart.mapper n :=
    fun b h => cramCell_behind s (by omega) lo h
  unfold cartRamPlace; dsimp only
  cases hm : s.cart.mapper <;> rw [hm] at byteWide <;> dsimp only
  case noMapper => simpa using byteWide 0 (by decide)
  case mbc1 | mbc5 => split; exacts [byteWide _ (by decide), trivial]
  case mbc2 =>
    repeat' split
    exacts [rfl, trivial, trivial]
  case mbc3 =>
    repeat' split
    exacts [byteWide _ (by decide), trivial, trivial, trivial]

/-- R68: Work RAM and its echo are byte cells only. -/
theorem wramPlace_cell (s : State) (n : Nat) : ∃ k, wramPlace s n = .cell .wram k ∧ k % 256 = n % 256 := by
  by_cases h : n < 0x1000
  · exact ⟨n, wramPlace_fixed s h, rfl⟩
  · exact ⟨_, wramPlace_banked s (Nat.not_lt.1 h), by omega⟩

/-- Every address resolves to a place that agrees with it. -/
theorem route_behind (s : State) (a : Word) : (route s a).Behind s.cart.mapper a.toNat := by
  rcases (by omega : a.toNat < 0x4000 ∨ 0x4000 ≤ a.toNat ∧ a.toNat < 0x8000 ∨ 0x8000 ≤ a.toNat ∧ a.toNat < 0xA000 ∨
    0xA000 ≤ a.toNat ∧ a.toNat < 0xC000 ∨ 0xC000 ≤ a.toNat ∧ a.toNat < 0xE000 ∨ 0xE000 ≤ a.toNat ∧ a.toNat < 0xFE00 ∨
    0xFE00 ≤ a.toNat ∧ a.toNat < 0xFEA0 ∨ 0xFEA0 ≤ a.toNat ∧ a.toNat < 0xFF00 ∨ 0xFF00 ≤ a.toNat) with
    hi | ⟨lo, hi⟩ | ⟨lo, hi⟩ | ⟨lo, hi⟩ | ⟨lo, hi⟩ | ⟨lo, hi⟩ | ⟨lo, hi⟩ | ⟨lo, hi⟩ | lo
  · rw [route_fixedRom hi]; exact ⟨rfl, iff_of_true rfl (by omega), by simp⟩
  · rw [route_switchableRom lo hi]; exact romWindow_behind s lo hi
  · rw [route_vram lo hi]; exact ⟨by omega, iff_of_false (by decide) (by omega), by simp⟩
  · rw [route_cartRam lo hi]; exact cartRamPlace_behind s lo
  · obtain ⟨k, place, index⟩ := wramPlace_cell s (a.toNat - 0xC000)
    rw [route_wram lo hi, place]; exact ⟨by omega, iff_of_false (by decide) (by omega), by simp⟩
  · obtain ⟨k, place, index⟩ := wramPlace_cell s (a.toNat - 0xE000)
    rw [route_echo lo hi, place]; exact ⟨by omega, iff_of_false (by decide) (by omega), by simp⟩
  · rw [route_oam lo hi]; exact ⟨by omega, iff_of_false (by decide) (by omega), by simp⟩
  · rw [route_unmapped lo hi]; trivial
  · rw [route_io lo]; exact ⟨BitVec.toNat_ofNat _ _, by omega⟩

/-! The cell behind an address. -/

/-- R128: every offset from 0x80 on (high RAM and IE) is plain, with and without a CGB. -/
theorem ioPlain_of_high (cgb : Bool) {o : Byte} (h : 0x80 ≤ o.toNat) : ioPlain cgb o = true := by
  have ne : ∀ b : Byte, b.toNat < 0x80 → o ≠ b := fun b hb g => by rw [g] at h; omega
  simp [ioPlain, ne]

/-- R101, R128: a read of such an offset gives the stored byte. -/
theorem ioRead_of_high (s : State) {o : Byte} (h : 0x80 ≤ o.toNat) : ioRead s o = readIo s o.toNat := by
  have ne : ∀ b : Byte, b.toNat < 0x80 → o ≠ b := fun b hb g => by rw [g] at h; omega
  simp [ioRead, ne]

/-- Plain memory is a byte cell of a memory, or a cell of the I/O file from 0xFF80 on (high RAM and IE). -/
theorem storageCell_eq_some {s : State} {a : Word} {r : Region} {k : Nat} :
    storageCell s a = some (r, k) ↔
      0x8000 ≤ a.toNat ∧ (route s a = .cell r k ∨ ∃ o, route s a = .io o ∧ 0x80 ≤ o.toNat ∧ r = .io ∧ k = o.toNat) := by
  unfold storageCell
  split
  case isTrue low => exact iff_of_false (by simp) (by omega)
  case isFalse low =>
    have high : 0x8000 ≤ a.toNat := Nat.not_lt.1 low
    cases route s a with
    | cell q j => simp [high]
    | io o => by_cases ho : 0x80 ≤ o.toNat <;> simp [high, ho, eq_comm]
    | _ => simp

section
variable {s : State} {a : Word} {r : Region} {k : Nat} (h : storageCell s a = some (r, k))
include h

/-- The index of the cell behind an address has the low byte of the address, so that neighbours have different cells. -/
theorem storageCell_index : k % 256 = a.toNat % 256 := by
  have behind := route_behind s a
  obtain ⟨-, cell | ⟨o, io, -, -, rfl⟩⟩ := storageCell_eq_some.1 h
  · rw [cell] at behind; exact behind.1
  · rw [io] at behind; rw [behind.1, Nat.mod_mod]

/-- Plain memory is none of the ROM and the palettes, no byte of a cartridge RAM of 4-bit cells, and no I/O register. -/
theorem storageCell_region :
    r ≠ .rom ∧ r ≠ .bgPal ∧ r ≠ .objPal ∧ (r = .cram → s.cart.mapper ≠ .mbc2) ∧ (r = .io → 0x80 ≤ k) := by
  have behind := route_behind s a
  obtain ⟨high, cell | ⟨o, -, ho, rfl, rfl⟩⟩ := storageCell_eq_some.1 h
  · rw [cell] at behind
    obtain ⟨-, rom, cram, io, bgPal, objPal⟩ := behind
    exact ⟨fun g => by have := rom.1 g; omega, bgPal, objPal, cram, fun g => absurd g io⟩
  · simp [ho]

/-- R80: a write there is a store in the cell. -/
theorem busWrite_storageCell (v : Byte) : busWrite s a v = writeCell s r k v := by
  obtain ⟨high, cell | ⟨o, io, ho, rfl, rfl⟩⟩ := storageCell_eq_some.1 h
  · exact busWrite_cell v high cell
  · rw [busWrite_io v high io]
    exact ioWrite_plain v (ioPlain_of_high _ ho)

/-- R80: a read there gives the byte of the cell. -/
theorem busRead_storageCell : busRead s a = (readCell s r k, s) := by
  obtain ⟨-, cell | ⟨o, io, ho, rfl, rfl⟩⟩ := storageCell_eq_some.1 h
  · exact busRead_cell cell
  · rw [busRead_io io, ioRead_of_high s ho]; rfl

end

/-! Read after write. -/

/-- A store in plain memory leaves every read of the I/O file below 0xFF80 as it was: none of the cells that such a read is made of
(R101 to R125) is plain memory. -/
theorem ioRead_writeCell (s : State) {r : Region} {k : Nat} (v : Byte) {o : Byte} (ho : o.toNat < 0x80)
    (bgPal : r ≠ .bgPal) (objPal : r ≠ .objPal) (io : r = .io → 0x80 ≤ k) : ioRead (writeCell s r k v) o = ioRead s o := by
  have low : ∀ j, j < 0x80 → readIo (writeCell s r k v) j = readIo s j := fun j hj => by
    unfold readIo
    rw [readCell_writeCell, if_neg]
    rintro ⟨hr, rfl⟩
    have := io hr.symm
    omega
  have palette : ∀ q, q ≠ r → ∀ j, readCell (writeCell s r k v) q j = readCell s q j := fun q hq j => by
    rw [readCell_writeCell, if_neg fun g => hq g.1]
  simp [ioRead, joypadRead, statRead, lyCoincidence, lcdMode, hLine, State.isDouble, low, ho, palette _ bgPal.symm,
    palette _ objPal.symm]

/-- A store in plain memory moves no address to another place. -/
theorem storageCell_writeCell (s : State) (r : Region) (k : Nat) (v : Byte) (a : Word) :
    storageCell (writeCell s r k v) a = storageCell s a := rfl

section
variable {s : State} {a : Word} {r : Region} {k : Nat} (h : storageCell s a = some (r, k))
include h

/-- R80: the byte stored is the byte read back. -/
theorem busRead_busWrite_same (v : Byte) : busRead (busWrite s a v) a = (v, busWrite s a v) := by
  rw [busWrite_storageCell h]
  have after : storageCell (writeCell s r k v) a = some (r, k) := h
  rw [busRead_storageCell after, readCell_writeCell_same]

/-- R80: an address with another cell, or with none, reads as before the store: by the place it resolves to, which the store does
not move. -/
theorem busRead_busWrite_other (v : Byte) {b : Word} (hb : storageCell s b ≠ some (r, k)) :
    (busRead (busWrite s a v) b).1 = (busRead s b).1 := by
  obtain ⟨rom, bgPal, objPal, cram, io⟩ := storageCell_region h
  have behind := route_behind s b
  have unmoved : route (writeCell s r k v) b = route s b := rfl
  have cellKept : ∀ q j, ¬ (q = r ∧ j = k) → readCell (writeCell s r k v) q j = readCell s q j := fun q j ne => by
    rw [readCell_writeCell, if_neg ne]
  rw [busWrite_storageCell h]
  unfold busRead
  rw [unmoved]
  cases place : route s b with
  | cell q j =>
    rw [place] at behind
    refine cellKept q j ?_
    rintro ⟨rfl, rfl⟩
    have high : 0x8000 ≤ b.toNat := Nat.not_lt.1 fun low => rom (behind.2.1.2 low)
    exact hb (storageCell_eq_some.2 ⟨high, .inl place⟩)
  | nibble j =>
    rw [place] at behind
    exact congrArg (0xF0 ||| ·) (cellKept .cram j fun g => cram g.1.symm behind)
  | io o =>
    rw [place] at behind
    by_cases ho : o.toNat < 0x80
    · exact ioRead_writeCell s v ho bgPal objPal io
    · have plain : 0x80 ≤ o.toNat := Nat.not_lt.1 ho
      simp only [ioRead_of_high _ plain]
      refine cellKept .io o.toNat ?_
      rintro ⟨rfl, rfl⟩
      exact hb (storageCell_eq_some.2 ⟨behind.2, .inr ⟨o, place, plain, rfl, rfl⟩⟩)
  | rtc | disabled | outOfRange | unmapped => rfl

end

/-- Settles O21: the cell behind the address is the only one that the store changes. -/
theorem readAfterWrite : Obligations.ReadAfterWrite := by
  rintro s a v ⟨r, k⟩ h
  exact ⟨congrArg Prod.fst (busRead_busWrite_same h v), fun b hb => busRead_busWrite_other h v hb⟩

/-! The echo. -/

/-- R69, D36: an address of the echo and the address 0x2000 below it resolve to the same byte of Work RAM. -/
theorem route_echo_pair (s : State) {k : Nat} (h : k < 0x1E00) :
    ∃ j, route s (BitVec.ofNat 16 (0xC000 + k)) = .cell .wram j ∧ route s (BitVec.ofNat 16 (0xE000 + k)) = .cell .wram j := by
  have low : (BitVec.ofNat 16 (0xC000 + k)).toNat = 0xC000 + k := by rw [BitVec.toNat_ofNat]; omega
  have high : (BitVec.ofNat 16 (0xE000 + k)).toNat = 0xE000 + k := by rw [BitVec.toNat_ofNat]; omega
  obtain ⟨j, place, -⟩ := wramPlace_cell s k
  rw [route_wram (by omega) (by omega), route_echo (by omega) (by omega), low, high, Nat.add_sub_cancel_left,
    Nat.add_sub_cancel_left]
  exact ⟨j, place, place⟩

/-- Settles O22: the two addresses resolve to one byte of Work RAM, so each access is the other, and the byte stored at either is
read after either. -/
theorem echoRoundTrip : Obligations.EchoRoundTrip := by
  intro s k v hk a b
  have ha : 0x8000 ≤ a.toNat := by rw [BitVec.toNat_ofNat]; omega
  have hb : 0x8000 ≤ b.toNat := by rw [BitVec.toNat_ofNat]; omega
  have same : ∀ t : State, busRead t b = busRead t a ∧ busWrite t b v = busWrite t a v := fun t => by
    obtain ⟨j, low, high⟩ := route_echo_pair t hk
    obtain ⟨readLow, writeLow⟩ := access_cell v ha low
    obtain ⟨readHigh, writeHigh⟩ := access_cell v hb high
    exact ⟨readHigh.trans readLow.symm, writeHigh.trans writeLow.symm⟩
  have back : (busRead (busWrite s a v) a).1 = v := by
    obtain ⟨j, low, -⟩ := route_echo_pair s hk
    exact congrArg Prod.fst (busRead_busWrite_same (storageCell_eq_some.2 ⟨ha, .inl low⟩) v)
  refine ⟨(same s).1, (same s).2, ?_, ?_⟩
  · rw [(same _).1, back]
  · rw [(same s).2, back]

/-! The stack. -/

/-- The two cells of a pushed word are different, since SP - 1 and SP - 2 differ in their low byte. -/
theorem stackCells_ne {s : State} {c d : Region × Nat} (hc : storageCell s (s.regs.sp - 1) = some c)
    (hd : storageCell s (s.regs.sp - 2) = some d) : c ≠ d := by
  rintro rfl
  have apart : (s.regs.sp - 1).toNat % 256 ≠ (s.regs.sp - 2).toNat % 256 := by bv_omega
  exact apart ((storageCell_index hc).symm.trans (storageCell_index hd))

/-- R75, R285: after a push into plain memory the low byte is read at SP - 2 and the high byte at SP - 1, with no effect. -/
theorem busRead_push16 {s : State} {c d : Region × Nat} (w : Word) (hc : storageCell s (s.regs.sp - 1) = some c)
    (hd : storageCell s (s.regs.sp - 2) = some d) :
    busRead (push16 s w) (s.regs.sp - 2) = (loByte w, push16 s w) ∧
      busRead (push16 s w) (s.regs.sp - 1) = (hiByte w, push16 s w) := by
  have stores : push16 s w = { writeCell (writeCell s c.1 c.2 (hiByte w)) d.1 d.2 (loByte w) with
      regs := { s.regs with sp := s.regs.sp - 2 } } := by
    have hd' : storageCell (writeCell s c.1 c.2 (hiByte w)) (s.regs.sp - 2) = some (d.1, d.2) := hd
    rw [push16_flat, busWrite_storageCell hc, busWrite_storageCell hd']
  have unmoved : ∀ a, storageCell (push16 s w) a = storageCell s a := fun a => by rw [stores]; rfl
  have low : readCell (push16 s w) d.1 d.2 = loByte w := by
    rw [stores]; exact readCell_writeCell_same _ _ _ _
  have high : readCell (push16 s w) c.1 c.2 = hiByte w := by
    rw [stores]
    refine (readCell_writeCell (writeCell s c.1 c.2 (hiByte w)) d.1 c.1 d.2 c.2 (loByte w)).trans ?_
    rw [if_neg fun g => stackCells_ne hc hd (Prod.ext g.1 g.2), readCell_writeCell_same]
  rw [busRead_storageCell ((unmoved _).trans hd), busRead_storageCell ((unmoved _).trans hc), low, high]
  exact ⟨rfl, rfl⟩

/-- Settles O44: the pop reads the two bytes where the push stored them, and brings SP back up by two. -/
theorem stackRoundTrip : Obligations.StackRoundTrip := by
  intro s w c d hc hd
  obtain ⟨readLow, readHigh⟩ := busRead_push16 w hc hd
  have sp : (push16 s w).regs.sp = s.regs.sp - 2 := by rw [push16_regs]; exact word_sub_two _
  have next : s.regs.sp - 2 + 1 = s.regs.sp - 1 := by bv_omega
  refine ⟨?_, ?_, congrArg Prod.fst readLow, congrArg Prod.fst readHigh⟩
  · rw [pop16_flat, sp, readLow, next, readHigh]
    exact joinBytes_hi_lo w
  · rw [pop16_regs, push16_regs]
    have back : s.regs.sp - 1 - 1 + 1 + 1 = s.regs.sp := by bv_omega
    simp only [back]

end Sys2Proof.Machine
end

section
/-! What a bus write changes (20_memory.md R62): the special offsets of the I/O file one by one (21_io_registers.md R100, R102), then
every place that an address resolves to. -/

namespace Sys2Proof.Machine

/-! Bytes as numbers. -/

/-- Bit 7 of a byte is set from 128 on. -/
theorem bitOf_seven (v : Byte) : bitOf v 7 = decide (128 ≤ v.toNat) :=
  (BitVec.msb_eq_getLsbD_last v).symm.trans (BitVec.msb_eq_decide v)

/-- A byte from 128 on without its bit 7 is 128 less. -/
theorem and_7F_of_high {v : Byte} (h : 128 ≤ v.toNat) : v &&& 0x7F = BitVec.ofNat 8 (v.toNat - 128) := by
  apply BitVec.eq_of_toNat_eq
  have mask : v.toNat &&& 127 = v.toNat % 128 := Nat.and_two_pow_sub_one_eq_mod v.toNat 7
  have := v.isLt
  simp [mask]
  omega

/-- R125: the index register counts within 64 and keeps its bit 7. -/
theorem paletteNext_eq (x : Byte) :
    paletteNext x = if 128 ≤ x.toNat then BitVec.ofNat 8 (128 + (x.toNat + 1) % 64) else x := by
  unfold paletteNext
  rw [bitOf_seven]
  simp only [decide_eq_true_eq]
  split
  case isFalse => rfl
  case isTrue =>
    apply BitVec.eq_of_toNat_eq
    have mask : (x.toNat + 1) % 256 &&& 63 = (x.toNat + 1) % 64 := by
      rw [Nat.and_two_pow_sub_one_eq_mod _ 6]; omega
    have join : 128 ||| (x.toNat + 1) % 64 = 128 + (x.toNat + 1) % 64 :=
      (Nat.two_pow_add_eq_or_of_lt (i := 7) (by omega) 1).symm
    simp [mask, join]
    omega

/-- R127: the bank of Work RAM that a byte selects, never 0. -/
theorem wramBank_eq (v : Byte) :
    (if v &&& 0x07 = 0 then 1 else v.setWidth 3 : BitVec 3) =
      BitVec.ofNat 3 (if v.toNat % 8 = 0 then 1 else v.toNat % 8) := by
  have mask : (v &&& 0x07).toNat = v.toNat % 8 := by
    rw [BitVec.toNat_and]; exact Nat.and_two_pow_sub_one_eq_mod v.toNat 3
  have zero : v &&& 0x07 = 0 ↔ v.toNat % 8 = 0 := by
    rw [← mask]; exact BitVec.toNat_inj.symm
  simp only [zero]
  split
  · rfl
  · apply BitVec.eq_of_toNat_eq; simp

/-- R122: the bank of Video RAM that a byte selects. -/
theorem vramBank_eq (v : Byte) : v.setWidth 1 = BitVec.ofNat 1 (v.toNat % 2) := by
  apply BitVec.eq_of_toNat_eq; simp

/-! The special offsets of the I/O file. -/

/-- R119: a copy to OAM after the store of its start register. -/
theorem oamDmaFrame_oamDma (s : State) (v : Byte) : oamDmaFrame s v (oamDma (writeIo s 0x46 v) v) := by
  refine ⟨sameButCopies_trans (sameButCopies_writeIo s 0x46 v) (sameButCopies_oamCopy _ _ _ _), ?_, fun r k oam start => ?_⟩
  · exact (readIo_oamCopy _ _ _ _ _).trans (readIo_writeIo_same s 0x46 v)
  · refine (readCell_oamCopy _ 160 0 _ fun g => oam ⟨g.1, by omega⟩).trans ?_
    exact (readCell_writeCell s .io r 0x46 k v).trans (if_neg start)

/-- R123: the three things that a write of HDMA5 does. -/
theorem hdmaFrame_hdmaControl (s : State) (v : Byte) : hdmaFrame s v (hdmaControl s v) := by
  unfold hdmaFrame hdmaControl
  rw [bitOf_seven]
  by_cases start : 128 ≤ v.toNat
  · simp only [start, decide_true, if_true, Bool.true_eq_false, and_false, if_false, ← and_7F_of_high start]
    exact storedAt_writeCell { s with hdmaActive := true } .io 0x55 _
  by_cases active : s.hdmaActive = true
  · simp only [start, active, decide_false, if_true, if_false, and_true]
    exact storedAt_writeCell { s with hdmaActive := false } .io 0x55 _
  · simp only [start, active, decide_false, if_false, and_true, Bool.false_eq_true]
    refine ⟨sameButCopies_trans (sameButCopies_hdmaBlocks _ s) (sameButCopies_writeIo _ _ _), readIo_writeIo_same _ _ _,
      fun r k vram io => ?_⟩
    refine (readCell_writeCell _ .io r 0x55 k 0xFF).trans ?_
    rw [if_neg fun g => io ⟨g.1, by omega, by omega⟩]
    exact readCell_hdmaBlocks _ s vram fun g => io ⟨g.1, g.2.1, by omega⟩

/-- R125: a write of a data port, of a palette memory that is not the I/O file. -/
theorem paletteStored_paletteWrite (s : State) {r : Region} (o : Nat) (v : Byte) (h : r ≠ .io) :
    paletteStored s r o v (paletteWrite s r o v) := by
  refine ⟨rfl, ?_, ?_, fun q k data index => ?_⟩
  · refine (readCell_writeCell _ .io r o _ _).trans ?_
    rw [if_neg fun g => h g.1]; exact readCell_writeCell_same _ _ _ _
  · exact (readIo_writeIo_same _ _ _).trans (paletteNext_eq _)
  · refine (readCell_writeCell _ .io q o k _).trans ?_
    rw [if_neg index]; exact (readCell_writeCell s r q _ k v).trans (if_neg data)

/-- A bank of a CGB selected together with the store of its register. -/
theorem storedAt_vramBank (s : State) (v : Byte) :
    storedAt { s with vramBank := BitVec.ofNat 1 (v.toNat % 2) } .io 0x4F v { writeIo s 0x4F v with vramBank := v.setWidth 1 } := by
  rw [← vramBank_eq]; exact storedAt_writeCell { s with vramBank := v.setWidth 1 } .io 0x4F v

theorem storedAt_wramBank (s : State) (v : Byte) :
    storedAt { s with wramBank := BitVec.ofNat 3 (if v.toNat % 8 = 0 then 1 else v.toNat % 8) } .io 0x70 v
      { writeIo s 0x70 v with wramBank := if v &&& 0x07 = 0 then 1 else v.setWidth 3 } := by
  rw [← wramBank_eq]
  exact storedAt_writeCell { s with wramBank := if v &&& 0x07 = 0 then 1 else v.setWidth 3 } .io 0x70 v

/-- R100: the offsets that are not plain, four on every machine and six more on a CGB. -/
theorem ioPlain_eq_false {cgb : Bool} {o : Byte} (h : ioPlain cgb o = false) :
    (o = 0x00 ∨ o = 0x04 ∨ o = 0x44 ∨ o = 0x46) ∨
      cgb = true ∧ (o = 0x4D ∨ o = 0x4F ∨ o = 0x55 ∨ o = 0x69 ∨ o = 0x6B ∨ o = 0x70) := by
  simp only [ioPlain, Bool.and_eq_false_iff, Bool.not_eq_false', Bool.and_eq_true, List.contains_eq_mem,
    decide_eq_true_eq, List.mem_cons, List.not_mem_nil, or_false] at h
  exact h

/-- R102: the six offsets that only a CGB treats specially. -/
theorem ioWrite_cgb {s : State} {o : Byte} (v : Byte) (cgb : s.cart.cgb = true)
    (h : o = 0x4D ∨ o = 0x4F ∨ o = 0x55 ∨ o = 0x69 ∨ o = 0x6B ∨ o = 0x70) : ioWrite s o v = cgbIoWrite s o v := by
  rcases h with rfl | rfl | rfl | rfl | rfl | rfl <;> exact if_pos cgb

/-- R102: a write of the I/O file changes what the clause of its offset says. -/
theorem ioFrame_ioWrite (s : State) (o v : Byte) : ioFrame s o v (ioWrite s o v) := by
  unfold ioFrame
  cases plain : ioPlain s.cart.cgb o with
  | true => rw [if_pos rfl, ioWrite_plain v plain]; exact storedAt_writeCell s .io o.toNat v
  | false =>
    rw [if_neg (by decide)]
    obtain (rfl | rfl | rfl | rfl) | ⟨cgb, special⟩ := ioPlain_eq_false plain
    · exact storedAt_writeCell s .io 0x00 (v &&& 0x30)
    · exact storedAt_writeCell s .io 0x04 0x00
    · exact rfl
    · exact oamDmaFrame_oamDma s v
    · rw [ioWrite_cgb v cgb special]
      obtain rfl | rfl | rfl | rfl | rfl | rfl := special
      · exact storedAt_writeCell s .io 0x4D ((readIo s 0x4D &&& 0x80) ||| (v &&& 0x01))
      · exact storedAt_vramBank s v
      · exact hdmaFrame_hdmaControl s v
      · exact paletteStored_paletteWrite s 0x68 v (by decide)
      · exact paletteStored_paletteWrite s 0x6A v (by decide)
      · exact ⟨rfl, storedAt_wramBank s v⟩

/-! Every place. -/

/-- R62: a write changes what the place behind its address says. -/
theorem writeFrame_busWrite (s : State) (a : Word) (v : Byte) : writeFrame s a v (busWrite s a v) := by
  unfold writeFrame
  split
  case isTrue low => rw [busWrite_command v low]; rfl
  case isFalse high =>
    rw [busWrite_place v (Nat.not_lt.1 high)]
    cases place : route s a with
    | cell r k => exact storedAt_writeCell s r k v
    | nibble k => exact storedAt_writeCell s .cram k (v &&& 0x0F)
    | rtc i =>
      exact ⟨rfl, RtcRegs.read_write _ i v, fun j hj ne => RtcRegs.read_write_ne _ v (route_rtc_lt place) hj ne⟩
    | disabled | outOfRange | unmapped => rfl
    | io o => exact ioFrame_ioWrite s o v

/-- Settles O20: it is the frame of a write, place by place. -/
theorem busWriteFrame : Obligations.BusWriteFrame := writeFrame_busWrite

end Sys2Proof.Machine
end

section
/-! The I/O register file as a bus access reaches it (21_io_registers.md R100 to R103, R112 to R114, R116, R122, R125, R127): what each
offset reads as, and what a write of it does. -/

namespace Sys2Proof.Machine

/-! The high page. -/

/-- R72: the address 0xFF00 + o resolves to the offset `o` of the I/O file. -/
theorem route_highPage (s : State) (o : Byte) : route s (highPage o) = .io o := by
  have address : (highPage o).toNat = 256 * 0xFF + o.toNat := joinBytes_toNat 0xFF o
  rw [route_io (by omega), address]
  congr 1
  apply BitVec.eq_of_toNat_eq
  rw [BitVec.toNat_ofNat]
  omega

/-- R101: a read there is that of the offset. -/
theorem busRead_highPage (s : State) (o : Byte) : busRead s (highPage o) = (ioRead s o, s) :=
  busRead_io (route_highPage s o)

/-- R102: a write there is that of the offset. -/
theorem busWrite_highPage (s : State) (o v : Byte) : busWrite s (highPage o) v = ioWrite s o v := by
  have address : (highPage o).toNat = 256 * 0xFF + o.toNat := joinBytes_toNat 0xFF o
  exact busWrite_io v (by omega) (route_highPage s o)

/-! Writes. -/

/-- Settles O26: each offset stores the one byte that its clause of the frame of an I/O write names. -/
theorem ioWrites : Obligations.IoWrites := by
  intro s o v t
  have frame : ioFrame s o v t := by
    rw [show t = ioWrite s o v from busWrite_highPage s o v]; exact ioFrame_ioWrite s o v
  refine ⟨?_, ?_, ?_, fun plain => ?_, fun cgb => ⟨?_, ?_, ?_⟩, busWrite_clock s _ v⟩
  · rintro rfl; exact frame
  · rintro rfl; exact frame
  · rintro rfl; exact frame
  · exact (if_pos plain).mp frame
  all_goals
    rintro rfl
    simpa [ioFrame, ioPlain, cgb] using frame

/-! Reads. -/

/-- R101, R125: the data port of the background palette of a CGB. -/
theorem ioRead_bgPal {s : State} (h : s.cart.cgb = true) :
    ioRead s 0x69 = readCell s .bgPal ((readIo s 0x68).toNat % 64) := by
  simp [ioRead, paletteIndex, h]

/-- R101, R125: the data port of the object palette of a CGB. -/
theorem ioRead_objPal {s : State} (h : s.cart.cgb = true) :
    ioRead s 0x6B = readCell s .objPal ((readIo s 0x6A).toNat % 64) := by
  simp [ioRead, paletteIndex, h]

/-- R101: every offset but those that R103, R112 and R125 name reads as its cell. -/
theorem ioRead_cell {s : State} {o : Byte} (joypad : o ≠ 0x00) (stat : o ≠ 0x41)
    (palette : ¬ (s.cart.cgb = true ∧ (o = 0x69 ∨ o = 0x6B))) : ioRead s o = readIo s o.toNat := by
  unfold ioRead
  rw [if_neg joypad, if_neg stat, if_neg fun h => palette ⟨h.1, .inl h.2⟩, if_neg fun h => palette ⟨h.1, .inr h.2⟩]

/-- Settles O28: a data port reads the palette byte that its index register selects, and its write is `paletteWrite`. -/
theorem palettePorts : Obligations.PalettePorts := by
  intro s v cgb port
  refine ⟨⟨?_, ?_⟩, ?_, ?_⟩
  · rw [busRead_highPage, ioRead_bgPal cgb]; rfl
  · rw [busWrite_highPage, ioWrite_cgb v cgb (by decide)]
    exact paletteStored_paletteWrite s 0x68 v (by decide)
  · rw [busRead_highPage, ioRead_objPal cgb]; rfl
  · rw [busWrite_highPage, ioWrite_cgb v cgb (by decide)]
    exact paletteStored_paletteWrite s 0x6A v (by decide)

/-! The joypad. -/

/-- R103: a bit of the key nibble is clear where a pressed key of a selected group clears it. -/
theorem bitOf_keyNibble (select keys : Byte) {k : Nat} (h : k < 4) :
    bitOf (keyNibble select keys) k = false ↔
      bitOf select 4 = false ∧ bitOf keys k = true ∨ bitOf select 5 = false ∧ bitOf keys (k + 4) = true := by
  unfold keyNibble
  cases bitOf select 4 <;> cases bitOf select 5 <;> interval_cases k <;> simp [bitOf, or_iff_not_imp_left]

/-- R103: the key nibble has no bit above bit 3. -/
theorem bitOf_keyNibble_high (select keys : Byte) {k : Nat} (h : 4 ≤ k) (hk : k < 8) :
    bitOf (keyNibble select keys) k = false := by
  unfold keyNibble
  interval_cases k <;> simp [bitOf]

theorem bitOf_or (x y : Byte) (k : Nat) : bitOf (x ||| y) k = (bitOf x k || bitOf y k) := BitVec.getLsbD_or

theorem bitOf_and (x y : Byte) (k : Nat) : bitOf (x &&& y) k = (bitOf x k && bitOf y k) := BitVec.getLsbD_and

/-- A byte that a mask leaves nothing of has none of the bits of the mask. -/
theorem bitOf_of_and_eq_zero {x mask : Byte} (h : x &&& mask = 0) {k : Nat} (hk : bitOf mask k = true) :
    bitOf x k = false := by
  have both : bitOf (x &&& mask) k = false := by rw [h]; exact BitVec.getLsbD_zero
  rwa [bitOf_and, hk, Bool.and_true] at both

/-- R103: the bits that the joypad register reads as, over the stored selection and the key nibble. -/
theorem bitOf_joypadRead (s : State) (k : Nat) :
    bitOf (joypadRead s) k = (bitOf 0xC0 k || bitOf (readIo s 0x00) k || bitOf (keyNibble (readIo s 0x00) s.joypad) k) := by
  unfold joypadRead; rw [bitOf_or, bitOf_or]

/-! STAT. -/

/-- R114: the mode from line 144 on, and the one that the parameter gives for a visible line. -/
theorem lcdMode_toNat (s : State) :
    (lcdMode s).toNat =
      if 144 ≤ (readIo s 0x44).toNat then 1 else (statMode s.cart.statMode (s.clock % hLine s) (hLine s)).bits.toNat := by
  unfold lcdMode; split <;> rfl

theorem lcdMode_lt (s : State) : (lcdMode s).toNat < 4 := by
  rw [lcdMode_toNat]
  split
  · decide
  · cases statMode s.cart.statMode (s.clock % hLine s) (hLine s) <;> decide

/-- A byte below 2^n has no bit from bit `n` on. -/
theorem bitOf_of_lt {x : Byte} {n k : Nat} (h : x.toNat < 2 ^ n) (hk : n ≤ k) : bitOf x k = false :=
  Nat.testBit_lt_two_pow (h.trans_le (Nat.pow_le_pow_right (by decide) hk))

/-- R112: the bits that STAT reads as, over the stored ones, the coincidence and the mode. -/
theorem bitOf_statRead (s : State) (k : Nat) :
    bitOf (statRead s) k =
      (bitOf (readIo s 0x41) k && bitOf 0xF8 k || bitOf (if lyCoincidence s then 0x04 else 0x00) k || bitOf (lcdMode s) k) := by
  unfold statRead; rw [bitOf_or, bitOf_or, bitOf_and]

/-- R112: bits 7:3 of STAT are stored. -/
theorem bitOf_statRead_stored (s : State) {k : Nat} (lo : 3 ≤ k) (hi : k < 8) :
    bitOf (statRead s) k = bitOf (readIo s 0x41) k := by
  rw [bitOf_statRead, bitOf_of_lt (n := 2) (lcdMode_lt s) (by omega)]
  interval_cases k <;> cases lyCoincidence s <;> simp [bitOf]

/-- R113: bit 2 of STAT is the coincidence. -/
theorem bitOf_statRead_two (s : State) : bitOf (statRead s) 2 = lyCoincidence s := by
  rw [bitOf_statRead, bitOf_of_lt (n := 2) (lcdMode_lt s) (by omega)]
  cases lyCoincidence s <;> simp [bitOf]

/-- R114: bits 1:0 of STAT are the mode. -/
theorem statRead_mode (s : State) : (statRead s).toNat % 4 = (lcdMode s).toNat := by
  have mask : ((statRead s) &&& 0x03).toNat = (statRead s).toNat % 4 := by
    rw [BitVec.toNat_and]; exact Nat.and_two_pow_sub_one_eq_mod _ 2
  rw [← mask]
  refine congrArg BitVec.toNat (byte_ext fun k hk => ?_)
  rw [bitOf_and, bitOf_statRead]
  by_cases low : k < 2
  · interval_cases k <;> cases lyCoincidence s <;> simp [bitOf]
  · rw [bitOf_of_lt (n := 2) (lcdMode_lt s) (by omega), bitOf_of_lt (x := 0x03) (n := 2) (by decide) (by omega),
      Bool.and_false]

/-- R114: the default of the parameter as the two fractions of the line. -/
theorem statModeDefault_bits (pos h : Nat) :
    (statModeDefault pos h).bits.toNat = if 6 * pos < h then 2 else if 20 * pos < 11 * h then 3 else 0 := by
  unfold statModeDefault; split
  · rfl
  · split <;> rfl

/-- Settles O27: the joypad register and STAT bit by bit, every other offset by its cell. -/
theorem synthesizedReads : Obligations.SynthesizedReads := by
  refine ⟨fun s stored => ?joypad, fun s => ?stat, fun s o joypad stat palette => ?cell⟩
  case joypad =>
    have unstored : ∀ k, bitOf 0xCF k = true → bitOf (readIo s 0x00) k = false := fun k => bitOf_of_and_eq_zero stored
    have noKey : ∀ k, 4 ≤ k → k < 8 → bitOf (keyNibble (readIo s 0x00) s.joypad) k = false :=
      fun k => bitOf_keyNibble_high _ _
    refine ⟨joypadRead s, busRead_highPage s 0x00, ?_, ?_, ?_, ?_, fun k hk => ?_⟩
    · rw [bitOf_joypadRead]; rfl
    · rw [bitOf_joypadRead]; rfl
    · rw [bitOf_joypadRead, noKey 5 (by decide) (by decide)]; simp [bitOf]
    · rw [bitOf_joypadRead, noKey 4 (by decide) (by decide)]; simp [bitOf]
    · have mask : bitOf 0xCF k = true ∧ bitOf 0xC0 k = false := by interval_cases k <;> decide
      rw [← bitOf_keyNibble _ _ hk, bitOf_joypadRead, unstored k mask.1, mask.2, Bool.or_false, Bool.false_or]
  case stat =>
    have line : (if s.cart.cgb && s.doubleSpeed then 120 else 60) = hLine s := rfl
    have mode := (statRead_mode s).trans (lcdMode_toNat s)
    refine ⟨statRead s, busRead_highPage s 0x41, fun k => bitOf_statRead_stored s, ?_, mode, fun visible default => ?_⟩
    · rw [bitOf_statRead_two]; exact beq_iff_eq
    · rw [mode, if_neg (Nat.not_le.2 visible), default, statMode_nil, statModeDefault_bits, line]
  case cell => rw [busRead_highPage, ioRead_cell joypad stat palette]

end Sys2Proof.Machine
end

section
/-! The copies that an I/O write starts (21_io_registers.md R118, R119, R123, R124; 61_timing_driver.md R443): the OAM DMA, one HDMA
block, and what HDMA5 and the service of a scanline do with the blocks. -/

namespace Sys2Proof.Machine

/-! The OAM DMA. -/

/-- R119: a transfer of `m + n` bytes is one of `m` bytes and then one of `n`. -/
theorem oamCopy_add (src : Word) (m n i : Nat) (s : State) :
    oamCopy src (m + n) i s = oamCopy src n (i + m) (oamCopy src m i s) := by
  induction m generalizing i s with
  | zero => rw [Nat.zero_add]; rfl
  | succ m ih => rw [Nat.succ_add, oamCopy, ih, oamCopy, Nat.add_right_comm, Nat.add_assoc]

/-- R119: byte `i` of a transfer is what a read of its source gives after the `i` copies before it. -/
theorem readCell_oamCopy_copied (src : Word) (s : State) {n i : Nat} (h : i < n) :
    readCell (oamCopy src n 0 s) .oam i = (busRead (oamCopy src i 0 s) (src + BitVec.ofNat 16 i)).1 := by
  obtain ⟨m, rfl⟩ := Nat.exists_eq_add_of_lt h
  rw [Nat.add_assoc, oamCopy_add, oamCopy, Nat.zero_add, readCell_oamCopy _ _ _ _ (by omega), readCell_writeCell_same]

/-- Nothing but memory and the trace differs: what a transfer changes whose source is no clock. -/
def sameButTrace (s t : State) : Prop := t = { s with mem := t.mem, out := t.out }

theorem sameButTrace_trans {s t u : State} (h : sameButTrace s t) (g : sameButTrace t u) : sameButTrace s u := by
  unfold sameButTrace at *; rw [g, h]

/-- Where an address resolves to does not depend on the bytes of memory. -/
theorem route_sameButTrace {s t : State} (h : sameButTrace s t) (a : Word) : route t a = route s a := by
  rw [show t = _ from h]; rfl

/-- R73, R78: a read of anything but a clock changes the trace at most. -/
theorem sameButTrace_busRead {s : State} {a : Word} (h : ∀ j, route s a ≠ .rtc j) : sameButTrace s (busRead s a).2 := by
  unfold busRead
  split
  case h_3 i place => exact absurd place (h i)
  all_goals rfl

theorem sameButTrace_oamCopy (src : Word) (n i : Nat) (s : State)
    (h : ∀ k, i ≤ k → k < i + n → ∀ j, route s (src + BitVec.ofNat 16 k) ≠ .rtc j) :
    sameButTrace s (oamCopy src n i s) := by
  induction n generalizing i s with
  | zero => rfl
  | succ n ih =>
    have copied : sameButTrace s
        (writeCell (busRead s (src + BitVec.ofNat 16 i)).2 .oam i (busRead s (src + BitVec.ofNat 16 i)).1) :=
      sameButTrace_trans (sameButTrace_busRead (h i (Nat.le_refl i) (by omega))) rfl
    refine sameButTrace_trans copied (ih (i + 1) _ fun k lo hi j => ?_)
    rw [route_sameButTrace copied]
    exact h k (by omega) (by omega) j

/-- The reads of the I/O file do not depend on OAM or the trace. -/
theorem ioRead_sameButTrace {s t : State} (h : sameButTrace s t) (cells : ∀ r k, r ≠ .oam → readCell t r k = readCell s r k)
    (o : Byte) : ioRead t o = ioRead s o := by
  have io : ∀ j, readIo t j = readIo s j := fun j => cells .io j (by decide)
  have line : hLine t = hLine s := by rw [show t = _ from h]; rfl
  unfold sameButTrace at h
  have cart : t.cart = s.cart := (congrArg State.cart h :)
  have joypad : t.joypad = s.joypad := (congrArg State.joypad h :)
  have clock : t.clock = s.clock := (congrArg State.clock h :)
  simp [ioRead, joypadRead, statRead, lyCoincidence, lcdMode, io, cart, joypad, clock, line, cells]

/-- A read of anything but a clock gives the same byte when nothing but the trace and bytes of OAM before the low byte of the
address differ. -/
theorem busRead_sameButTrace {s t : State} {a : Word} (h : sameButTrace s t) (noClock : ∀ j, route s a ≠ .rtc j)
    (cells : ∀ r k, ¬ (r = .oam ∧ k < a.toNat % 256) → readCell t r k = readCell s r k) :
    (busRead t a).1 = (busRead s a).1 := by
  have behind := route_behind s a
  unfold busRead
  rw [route_sameButTrace h]
  cases place : route s a with
  | cell r k =>
    rw [place] at behind
    refine cells r k fun g => ?_
    have := behind.1
    omega
  | nibble k => exact congrArg (0xF0 ||| ·) (cells .cram k (by simp))
  | rtc i => exact absurd place (noClock i)
  | io o => exact ioRead_sameButTrace h (fun r k ne => cells r k fun g => ne g.1) o
  | disabled | outOfRange | unmapped => rfl

/-- R119: unless the source is a clock, byte `i` is what a read of its source gives before the transfer, since the bytes of OAM
that are copied before it are none of its source. -/
theorem busRead_oamCopy {src : Word} (aligned : src.toNat % 256 = 0) {s : State} {i : Nat} (hi : i < 256)
    (h : ∀ k, k ≤ i → ∀ j, route s (src + BitVec.ofNat 16 k) ≠ .rtc j) :
    (busRead (oamCopy src i 0 s) (src + BitVec.ofNat 16 i)).1 = (busRead s (src + BitVec.ofNat 16 i)).1 := by
  have low : (src + BitVec.ofNat 16 i).toNat % 256 = i := by
    rw [BitVec.toNat_add, BitVec.toNat_ofNat]; omega
  refine busRead_sameButTrace (sameButTrace_oamCopy src i 0 s fun k _ hk => h k (by omega)) (h i (Nat.le_refl i)) ?_
  intro r k old
  rw [low] at old
  exact readCell_oamCopy src i 0 s fun g => old ⟨g.1, by omega⟩

/-- Settles O25: the write stores its byte and is the transfer, byte by byte; its frame is that of any I/O write. -/
theorem oamDmaCopies : Obligations.OamDmaCopies := by
  intro s v s1 src t
  have transfer : t = oamCopy (BitVec.ofNat 16 (256 * v.toNat)) 160 0 s1 := busWrite_highPage s 0x46 v
  have source : ∀ i, src i = BitVec.ofNat 16 (256 * v.toNat) + BitVec.ofNat 16 i := fun i => BitVec.ofNat_add _ _
  have copied : ∀ i, i < 160 → readCell t .oam i = (busRead (oamCopy (BitVec.ofNat 16 (256 * v.toNat)) i 0 s1) (src i)).1 := by
    intro i hi; rw [transfer, source]; exact readCell_oamCopy_copied _ s1 hi
  refine ⟨copied, fun noClock => ⟨?_, fun i hi => ?_⟩, ?_⟩
  · rw [transfer]
    refine sameButTrace_trans (t := s1) rfl (sameButTrace_oamCopy _ 160 0 s1 fun k _ hk j => ?_)
    rw [← source]; exact noClock k j (by omega)
  · rw [copied i hi, source]
    refine busRead_oamCopy (by rw [BitVec.toNat_ofNat]; omega) (by omega) fun k hk j => ?_
    rw [← source]; exact noClock k j (by omega)
  · rw [transfer]; exact oamDmaFrame_oamDma s v

/-! One HDMA block. -/

/-- R123: the address bits that the registers of the destination keep. -/
theorem and_1FF0_toNat (x : Word) : (x &&& 0x1FF0 : Word).toNat = x.toNat % 8192 / 16 * 16 := by
  have split : (x &&& 0x1FF0 : Word) = (x &&& 0xFFF0) &&& 0x1FFF := by rw [BitVec.and_assoc]; rfl
  have mask : (x.toNat / 16 * 16) &&& 8191 = x.toNat / 16 * 16 % 8192 := Nat.and_two_pow_sub_one_eq_mod _ 13
  rw [split, BitVec.toNat_and, and_FFF0_toNat]
  exact mask.trans (by omega)

/-- R123: the source address, a multiple of 16. -/
theorem hdmaSrc_eq (s : State) :
    hdmaSrc s = BitVec.ofNat 16 ((256 * (readIo s 0x51).toNat + (readIo s 0x52).toNat) / 16 * 16) := by
  apply BitVec.eq_of_toNat_eq
  have := (readIo s 0x51).isLt; have := (readIo s 0x52).isLt
  rw [hdmaSrc, and_FFF0_toNat, joinBytes_toNat, BitVec.toNat_ofNat]
  omega

/-- R123: the destination address, a multiple of 16 inside Video RAM. -/
theorem hdmaDst_eq (s : State) :
    hdmaDst s = BitVec.ofNat 16 (0x8000 + (256 * (readIo s 0x53).toNat + (readIo s 0x54).toNat) % 8192 / 16 * 16) := by
  apply BitVec.eq_of_toNat_eq
  rw [hdmaDst, BitVec.toNat_add, and_1FF0_toNat, joinBytes_toNat, BitVec.toNat_ofNat]
  rfl

/-- R123: a copy of `m + n` bytes is one of `m` bytes and then one of `n`. -/
theorem vramCopy_add (src dst : Word) (m n i : Nat) (s : State) :
    vramCopy src dst (m + n) i s = vramCopy src dst n (i + m) (vramCopy src dst m i s) := by
  induction m generalizing i s with
  | zero => rw [Nat.zero_add]; rfl
  | succ m ih => rw [Nat.succ_add, vramCopy, ih, vramCopy, Nat.add_right_comm, Nat.add_assoc]

/-- A copy leaves the bank of Video RAM in effect. -/
theorem vramBankOf_sameButCopies {s t : State} (h : sameButCopies s t) : vramBankOf t = vramBankOf s := by
  rw [show t = _ from h]; rfl

section
variable {dst : Word} {off : Nat} (place : dst.toNat = 0x8000 + off)
include place

/-- R66, R123: one step of a copy to the offset `off` of the bank in effect. -/
theorem vramCopy_succ (src : Word) (n : Nat) {i : Nat} (s : State) (h : off + i < 8192) :
    vramCopy src dst (n + 1) i s =
      vramCopy src dst n (i + 1) (writeCell (busRead s (src + BitVec.ofNat 16 i)).2 .vram (vramBankOf s * 8192 + off + i)
        (busRead s (src + BitVec.ofNat 16 i)).1) := by
  have cell : (dst + BitVec.ofNat 16 i).toNat - 0x8000 = off + i := by
    rw [BitVec.toNat_add, BitVec.toNat_ofNat]; omega
  rw [vramCopy, cell, vramBankOf_sameButCopies (sameButCopies_busRead s _), Nat.add_assoc]

/-- R123: a copy changes the bytes of Video RAM that it copies, and no other byte of memory. -/
theorem readCell_vramCopy_outside (src : Word) (n i : Nat) (s : State) (h : off + (i + n) ≤ 8192) {r : Region} {k : Nat}
    (hk : ¬ (r = .vram ∧ vramBankOf s * 8192 + off + i ≤ k ∧ k < vramBankOf s * 8192 + off + (i + n))) :
    readCell (vramCopy src dst n i s) r k = readCell s r k := by
  induction n generalizing i s with
  | zero => rfl
  | succ n ih =>
    rw [vramCopy_succ place src n s (by omega), ih (i + 1) _ (by omega), readCell_writeCell, if_neg, readCell_busRead]
    · exact fun g => hk ⟨g.1, by omega, by omega⟩
    · rw [vramBankOf_sameButCopies (sameButCopies_trans (sameButCopies_busRead s _) (sameButCopies_writeCell _ _ _ _))]
      exact fun g => hk ⟨g.1, by omega, by omega⟩

/-- R123: byte `i` of a copy is what a read of its source gives after the `i` copies before it. -/
theorem readCell_vramCopy_copied (src : Word) (s : State) {n i : Nat} (h : i < n) (fits : off + n ≤ 8192) :
    readCell (vramCopy src dst n 0 s) .vram (vramBankOf s * 8192 + off + i) =
      (busRead (vramCopy src dst i 0 s) (src + BitVec.ofNat 16 i)).1 := by
  obtain ⟨m, rfl⟩ := Nat.exists_eq_add_of_lt h
  have bank : vramBankOf (vramCopy src dst i 0 s) = vramBankOf s := vramBankOf_sameButCopies (sameButCopies_vramCopy _ _ _ _ _)
  rw [Nat.add_assoc, vramCopy_add, Nat.zero_add, vramCopy_succ place _ _ _ (by omega), bank,
    readCell_vramCopy_outside place _ _ _ _ (by omega), readCell_writeCell_same]
  rw [vramBankOf_sameButCopies (sameButCopies_trans (sameButCopies_busRead _ _) (sameButCopies_writeCell _ _ _ _)), bank]
  omega

end

/-- R123: the write-back changes the address registers only. -/
theorem readCell_hdmaWriteBack (s : State) (src dst : Word) {r : Region} {k : Nat} (h : ¬ (r = .io ∧ 0x51 ≤ k ∧ k ≤ 0x54)) :
    readCell (hdmaWriteBack s src dst) r k = readCell s r k := by
  have ne : ∀ o, 0x51 ≤ o → o ≤ 0x54 → ¬ (r = .io ∧ k = o) := fun o lo hi g => h ⟨g.1, by omega, by omega⟩
  simp [hdmaWriteBack, writeIo, readCell_writeCell, ne]

/-- A word is read back from the two bytes it is stored as. -/
theorem hiByte_loByte_toNat (w : Word) : 256 * (hiByte w).toNat + (loByte w).toNat = w.toNat := by
  rw [← joinBytes_toNat, joinBytes_hi_lo]

/-- R123: what the write-back leaves in the source registers. -/
theorem hdmaWriteBack_src (s : State) (src dst : Word) :
    256 * (readIo (hdmaWriteBack s src dst) 0x51).toNat + (readIo (hdmaWriteBack s src dst) 0x52).toNat =
      (src.toNat + 16) % 65536 := by
  have advanced := hiByte_loByte_toNat (src + 16)
  rw [BitVec.toNat_add] at advanced
  simpa [hdmaWriteBack, readIo_writeIo] using advanced

/-- R123: what the write-back leaves in the destination registers. -/
theorem hdmaWriteBack_dst (s : State) (src : Word) {dst : Word} {off : Nat} (place : dst.toNat = 0x8000 + off)
    (aligned : off % 16 = 0) :
    256 * (readIo (hdmaWriteBack s src dst) 0x53).toNat + (readIo (hdmaWriteBack s src dst) 0x54).toNat =
      0x8000 + (off + 16) % 8192 := by
  have advanced := hiByte_loByte_toNat (0x8000 + ((dst + 16) &&& 0x1FF0))
  have inside : (0x8000 + ((dst + 16) &&& 0x1FF0)).toNat = 0x8000 + (off + 16) % 8192 := by
    rw [BitVec.toNat_add, and_1FF0_toNat, BitVec.toNat_add, place]
    simp
    omega
  rw [inside] at advanced
  simpa only [hdmaWriteBack, readIo_writeIo, reduceIte, Nat.reduceEqDiff] using advanced

/-- Settles O29: a block is sixteen copies and the write-back, and each changes what is said of it. -/
theorem hdmaBlockCopies : Obligations.HdmaBlockCopies := by
  intro s src off dst bank t
  have aligned : off % 16 = 0 := Nat.mul_mod_left _ _
  have fits : off + 16 ≤ 8192 := by
    have : off = (256 * (readIo s 0x53).toNat + (readIo s 0x54).toNat) % 8192 / 16 * 16 := rfl
    omega
  have place : dst.toNat = 0x8000 + off := by
    rw [show dst = BitVec.ofNat 16 (0x8000 + off) from rfl, BitVec.toNat_ofNat]; omega
  have inEffect : vramBankOf s = bank := rfl
  have fromSrc : hdmaSrc s = src := hdmaSrc_eq s
  have toDst : hdmaDst s = dst := hdmaDst_eq s
  have block : t = hdmaWriteBack (vramCopy src dst 16 0 s) src dst := by rw [← fromSrc, ← toDst]; rfl
  refine ⟨sameButCopies_hdmaBlock s, fun i hi => ?_, ?_, ?_, fun r k vram io => ?_⟩
  · rw [block, readCell_hdmaWriteBack _ _ _ (by simp)]
    exact readCell_vramCopy_copied place src s hi fits
  · rw [block]; exact hdmaWriteBack_src _ _ _
  · rw [block]; exact hdmaWriteBack_dst _ _ place aligned
  · rw [block, readCell_hdmaWriteBack _ _ _ io]
    exact readCell_vramCopy_outside place src 16 0 s (by omega) fun g => vram ⟨g.1, by omega, by omega⟩

/-! HDMA5 and the service of a scanline. -/

/-- R443: without an active transfer of a CGB a scanline copies nothing. -/
theorem hdmaService_idle {s : State} (h : s.cart.cgb = false ∨ s.hdmaActive = false) : hdmaService s = s := by
  unfold hdmaService
  refine if_neg ?_
  rcases h with h | h <;> simp [h]

/-- R443: an active transfer copies a block, then counts its remaining blocks down or ends. -/
theorem hdmaService_active {s : State} (cgb : s.cart.cgb = true) (active : s.hdmaActive = true) :
    hdmaService s =
      if readIo s 0x55 &&& 0x7F = 0 then writeIo { hdmaBlock s with hdmaActive := false } 0x55 0xFF
      else writeIo (hdmaBlock s) 0x55 ((readIo s 0x55 &&& 0x7F) - 1) := by
  rw [← readIo_hdmaBlock s 0x55 (by omega)]
  exact if_pos ⟨cgb, active⟩

/-- R123: bits 6:0 of a byte. -/
theorem and_7F_toNat (v : Byte) : (v &&& 0x7F : Byte).toNat = v.toNat % 128 := by
  rw [BitVec.toNat_and]; exact Nat.and_two_pow_sub_one_eq_mod _ 7

/-- R102, R123: a write of HDMA5 of a CGB is `hdmaControl`. -/
theorem busWrite_hdma5 {s : State} (v : Byte) (cgb : s.cart.cgb = true) : busWrite s 0xFF55 v = hdmaControl s v :=
  (busWrite_highPage s 0x55 v).trans (ioWrite_cgb v cgb (by decide))

/-- R123: with bit 7 clear and no active transfer, a write of HDMA5 copies its blocks at once. -/
theorem hdmaControl_atOnce {s : State} {v : Byte} (low : v.toNat < 128) (idle : s.hdmaActive = false) :
    hdmaControl s v = writeIo (hdmaBlocks (v.toNat + 1) s) 0x55 0xFF := by
  have clear : bitOf v 7 = false := by rw [bitOf_seven, decide_eq_false (by omega)]
  unfold hdmaControl
  rw [idle, clear, if_neg (by simp), if_neg (by decide), Nat.mod_eq_of_lt low]

/-- Settles O30: a write of HDMA5 that cancels or starts a transfer has the frame of an I/O write, and the one that copies at once
and the two services store one byte after their blocks. -/
theorem hdmaControl_and_hdmaService : Obligations.HdmaControl := by
  refine ⟨fun s => hdmaService_idle, ?_⟩
  intro s v cgb t u n
  have frame : hdmaFrame s v t := by
    rw [show t = hdmaControl s v from busWrite_hdma5 v cgb]; exact hdmaFrame_hdmaControl s v
  have blocks := and_7F_toNat (readIo s 0x55)
  refine ⟨fun low active => ?cancel, fun high => ?start, fun low idle => ?atOnce, fun active last => ?ends,
    fun active more => ?goesOn⟩
  case cancel => rwa [hdmaFrame, if_neg (Nat.not_le.2 low), if_pos active] at frame
  case start => rwa [hdmaFrame, if_pos high] at frame
  case atOnce =>
    rw [show t = hdmaControl s v from busWrite_hdma5 v cgb, hdmaControl_atOnce low idle]
    exact storedAt_writeCell _ .io 0x55 0xFF
  case ends =>
    have noneLeft : readIo s 0x55 &&& 0x7F = 0 := BitVec.eq_of_toNat_eq (blocks.trans last)
    rw [show u = _ from hdmaService_active cgb active, if_pos noneLeft]
    exact storedAt_writeCell _ .io 0x55 0xFF
  case goesOn =>
    have someLeft : readIo s 0x55 &&& 0x7F ≠ 0 := fun g => more (by rw [← show _ = n from blocks, g]; rfl)
    have counted : (readIo s 0x55 &&& 0x7F) - 1 = BitVec.ofNat 8 (n - 1) := by
      apply BitVec.eq_of_toNat_eq
      have : (readIo s 0x55 &&& 0x7F).toNat = n := blocks
      rw [BitVec.toNat_sub, BitVec.toNat_ofNat, this]
      simp
      omega
    rw [show u = _ from hdmaService_active cgb active, if_neg someLeft, counted]
    refine ⟨?_, storedAt_writeCell _ .io 0x55 _⟩
    rw [writeIo_hdmaActive, show hdmaBlock s = _ from sameButCopies_hdmaBlock s]
    exact active

end Sys2Proof.Machine
end

section
/-! The window of cartridge RAM 0xA000-0xBFFF (22_cartridge_mbc.md R170, R171, R177; 20_memory.md R67): what an address of it resolves
to by mapper family, and what an access does there. -/

namespace Sys2Proof.Machine

/-! What the window resolves to. -/

section
variable {s : State} {n : Nat}

/-- R170: without mapper the window is the RAM. -/
theorem cartRamPlace_noMapper (hm : s.cart.mapper = .noMapper) : cartRamPlace s n = cramCell s (n - 0xA000) := by
  simp only [cartRamPlace, hm]

/-- R170: the gate of every mapper. -/
theorem cartRamPlace_disabled (hm : s.cart.mapper ≠ .noMapper) (gate : s.mbc.ramEnabled = false) :
    cartRamPlace s n = .disabled := by
  unfold cartRamPlace
  cases h : s.cart.mapper with
  | noMapper => exact absurd h hm
  | mbc1 | mbc2 | mbc3 | mbc5 => simp [gate]

section
variable (gate : s.mbc.ramEnabled = true)
include gate

/-- R170: an MBC1 and an MBC5 show the bank that is selected. -/
theorem cartRamPlace_banked (hm : s.cart.mapper = .mbc1 ∨ s.cart.mapper = .mbc5) :
    cartRamPlace s n = cramCell s (s.mbc.ramBank.toNat * 0x2000 + (n - 0xA000)) := by
  rcases hm with hm | hm <;> simp [cartRamPlace, hm, gate]

/-- R170: an MBC2 shows its 512 cells of 4 bits, once. -/
theorem cartRamPlace_mbc2 (hm : s.cart.mapper = .mbc2) :
    cartRamPlace s n = if n ≤ 0xA1FF then .nibble (n - 0xA000) else .outOfRange := by
  simp [cartRamPlace, hm, gate]

/-- R170: an MBC3 shows a bank, an RTC register, or nothing, by its selector. -/
theorem cartRamPlace_mbc3 (hm : s.cart.mapper = .mbc3) :
    cartRamPlace s n =
      if s.mbc.ramBank.toNat ≤ 3 then cramCell s (s.mbc.ramBank.toNat * 0x2000 + (n - 0xA000))
      else if 8 ≤ s.mbc.ramBank.toNat ∧ s.mbc.ramBank.toNat ≤ 12 then .rtc (s.mbc.ramBank.toNat - 8)
      else .outOfRange := by
  simp [cartRamPlace, hm, gate]

end
end

/-! The read and the write at each such place. -/

section
variable {s : State} {a : Word} (v : Byte) (ha : 0x8000 ≤ a.toNat)
include ha

/-- R170: a 4-bit cell reads with ones above and keeps the low nibble of what is written. -/
theorem access_nibble {k : Nat} (h : route s a = .nibble k) :
    busRead s a = (0xF0 ||| readCell s .cram k, s) ∧ busWrite s a v = writeCell s .cram k (v &&& 0x0F) :=
  ⟨busRead_nibble h, by rw [busWrite_place v ha, h]; rfl⟩

/-- R176, R177: an RTC register is read and written after its update. -/
theorem access_rtc {i : Nat} (h : route s a = .rtc i) :
    busRead s a = ((rtcUpdate s).rtc.read i, rtcUpdate s) ∧
      busWrite s a v = { rtcUpdate s with rtc := (rtcUpdate s).rtc.write i v } :=
  ⟨busRead_rtc h, by rw [busWrite_place v ha, h]; rfl⟩

/-- R67, D47: behind the closed gate nothing is read and nothing is stored. -/
theorem access_disabled (h : route s a = .disabled) : busRead s a = (0xFF, s) ∧ busWrite s a v = s :=
  ⟨busRead_disabled h, by rw [busWrite_place v ha, h]; rfl⟩

/-- R73, R171, R400: outside the RAM both are reported. -/
theorem access_outOfRange (h : route s a = .outOfRange) :
    busRead s a = (0xFF, report s (.outOfRange a)) ∧ busWrite s a v = report s (.outOfRange a) :=
  ⟨busRead_outOfRange h, by rw [busWrite_place v ha, h]; rfl⟩

/-- R170, R171: a byte of cartridge RAM, where the header declares so much of it. -/
theorem access_cramCell {i : Nat} (h : route s a = cramCell s i) :
    (i < s.cart.ramBanks * 8192 → busRead s a = (readCell s .cram i, s) ∧ busWrite s a v = writeCell s .cram i v) ∧
      (s.cart.ramBanks * 8192 ≤ i →
        busRead s a = (0xFF, report s (.outOfRange a)) ∧ busWrite s a v = report s (.outOfRange a)) :=
  ⟨fun inside => access_cell v ha (h.trans (if_pos inside)),
    fun outside => access_outOfRange v ha (h.trans (if_neg (Nat.not_lt.2 outside)))⟩

end

/-- Settles O24: each mapper family shows its own place in the window, and an access acts on that place. -/
theorem cartridgeRamWindow : Obligations.CartridgeRamWindow := by
  intro s a v lo hi off cell banked outside
  have ha : 0x8000 ≤ a.toNat := by omega
  have window : route s a = cartRamPlace s a.toNat := route_cartRam lo hi
  refine ⟨fun hm => ?noMapper, fun hm gate => ?disabled, fun gate => ⟨fun hm => ?banked, fun hm => ?mbc2, fun hm => ?mbc3⟩⟩
  case noMapper => exact access_cramCell v ha (window.trans (cartRamPlace_noMapper hm))
  case disabled => exact access_disabled v ha (window.trans (cartRamPlace_disabled hm gate))
  case banked => exact access_cramCell v ha (window.trans (cartRamPlace_banked gate hm))
  case mbc2 =>
    rw [cartRamPlace_mbc2 gate hm] at window
    exact ⟨fun low => access_nibble v ha (window.trans (if_pos (by omega))),
      fun high => access_outOfRange v ha (window.trans (if_neg (by omega)))⟩
  case mbc3 =>
    intro b
    rw [cartRamPlace_mbc3 gate hm] at window
    refine ⟨fun low => access_cramCell v ha (window.trans (if_pos low)), fun clock top => ?_, fun high gap => ?_⟩
    · exact access_rtc v ha (window.trans ((if_neg (by omega)).trans (if_pos ⟨clock, top⟩)))
    · exact access_outOfRange v ha (window.trans ((if_neg (by omega)).trans (if_neg (by omega))))

end Sys2Proof.Machine
end

section
/-! The mapper commands (22_cartridge_mbc.md section 2): a bank number as the arithmetic of its bit fields, then the command that a
write to each range of 0x0000-0x7FFF is. -/

namespace Sys2Proof.Machine

/-! Bit fields as arithmetic. -/

/-- The mask of the `n` bits from bit `i` on. -/
theorem and_shifted_mask (x i n : Nat) : x &&& (2 ^ n - 1) * 2 ^ i = x / 2 ^ i % 2 ^ n * 2 ^ i := by
  apply Nat.eq_of_testBit_eq
  intro j
  rw [Nat.testBit_and, Nat.testBit_mul_two_pow, Nat.testBit_mul_two_pow, Nat.testBit_two_pow_sub_one, Nat.testBit_mod_two_pow,
    Nat.testBit_div_two_pow]
  by_cases h : i ≤ j
  · rw [Nat.sub_add_cancel h, Bool.and_comm, Bool.and_assoc]
  · simp [h]

/-- A field of a bank number, in place. -/
theorem field_toNat (b : BitVec 9) {m : BitVec 9} (i n : Nat) (hm : m.toNat = (2 ^ n - 1) * 2 ^ i) :
    (b &&& m).toNat = b.toNat / 2 ^ i % 2 ^ n * 2 ^ i := by
  rw [BitVec.toNat_and, hm, and_shifted_mask]

/-- The low `n` bits of a byte are its remainder by `k = 2 ^ n`. -/
theorem and_mask_toNat (v : Byte) {m : Byte} (k n : Nat) (hk : k = 2 ^ n) (hm : m.toNat = k - 1) :
    (v &&& m).toNat = v.toNat % k := by
  rw [BitVec.toNat_and, hm, hk, Nat.and_two_pow_sub_one_eq_mod]

/-- The low bits of a byte, as a number of `w` bits. -/
theorem setWidth_and_mask (v : Byte) {m : Byte} (w k n : Nat) (hk : k = 2 ^ n) (hm : m.toNat = k - 1) :
    (v &&& m).setWidth w = BitVec.ofNat w (v.toNat % k) := by
  apply BitVec.eq_of_toNat_eq
  rw [BitVec.toNat_setWidth, and_mask_toNat v k n hk hm, BitVec.toNat_ofNat]

/-- Two fields that do not overlap, put together. -/
theorem or_fields {x y : BitVec 9} {h l : Nat} (i : Nat) (hx : x.toNat = h * 2 ^ i) (hy : y.toNat = l) (hl : l < 2 ^ i) :
    x ||| y = BitVec.ofNat 9 (h * 2 ^ i + l) := by
  have join : (x ||| y).toNat = h * 2 ^ i + l := by
    rw [BitVec.toNat_or, hx, hy, Nat.mul_comm, Nat.two_pow_add_eq_or_of_lt hl]
  rw [← join, BitVec.ofNat_toNat, BitVec.setWidth_eq]

/-- R172: the bank number that a command makes of `n` under the 0 -> 1 rule. -/
def nonzeroBank (n : Nat) : BitVec 9 := BitVec.ofNat 9 (if n = 0 then 1 else n)

/-- It is the model's rule, on a number that fits. -/
theorem zeroToOne_ofNat {n : Nat} (h : n < 512) : zeroToOne (BitVec.ofNat 9 n) = nonzeroBank n := by
  have zero : BitVec.ofNat 9 n = 0 ↔ n = 0 := by
    rw [← BitVec.toNat_inj, BitVec.toNat_ofNat, Nat.mod_eq_of_lt h]; rfl
  unfold zeroToOne nonzeroBank
  simp only [zero]
  split <;> rfl

/-- R158: the gate opens on a low nibble of 0xA. -/
theorem ramGate_eq (v : Byte) : ramGate v = decide (v.toNat % 16 = 10) := by
  rw [Bool.eq_iff_iff, ramGate, beq_iff_eq, decide_eq_true_eq, ← BitVec.toNat_inj, and_mask_toNat v 16 4 rfl rfl]
  rfl

/-- R161: bit 0 of a byte. -/
theorem bitOf_zero (v : Byte) : bitOf v 0 = decide (v.toNat % 2 = 1) := Nat.testBit_zero v.toNat

/-! The bank numbers that the commands make. -/

/-- R159: a new low field under the bits 6:5 of an MBC1 bank number. -/
theorem mbc1Bank_low (b : BitVec 9) (v : Byte) :
    (b &&& 0x060) ||| (v &&& 0x1F).setWidth 9 = BitVec.ofNat 9 (b.toNat / 32 % 4 * 32 + v.toNat % 32) := by
  rw [setWidth_and_mask v 9 32 5 rfl rfl]
  refine or_fields 5 (field_toNat b 5 2 rfl) ?_ (Nat.mod_lt _ (by decide))
  rw [BitVec.toNat_ofNat]; omega

/-- R160: new bits 6:5 over the low field of an MBC1 bank number. -/
theorem mbc1Bank_high (b : BitVec 9) (v : Byte) :
    (b &&& 0x01F) ||| ((v &&& 0x03).setWidth 9 <<< 5) = BitVec.ofNat 9 (b.toNat % 32 + v.toNat % 4 * 32) := by
  rw [setWidth_and_mask v 9 4 2 rfl rfl, BitVec.or_comm, Nat.add_comm]
  refine or_fields 5 ?_ ?_ (Nat.mod_lt _ (by decide))
  · rw [BitVec.toNat_shiftLeft, BitVec.toNat_ofNat, Nat.shiftLeft_eq]; omega
  · rw [field_toNat b 0 5 rfl]; omega

/-- R168: a new low byte under bit 8 of an MBC5 bank number. -/
theorem mbc5Bank_low (b : BitVec 9) (v : Byte) :
    (b &&& 0x100) ||| v.setWidth 9 = BitVec.ofNat 9 (b.toNat / 256 * 256 + v.toNat) := by
  refine or_fields 8 ?_ ?_ v.isLt
  · rw [field_toNat b 8 1 rfl]; omega
  · rw [BitVec.toNat_setWidth]; omega

/-- R168: a new bit 8 over the low byte of an MBC5 bank number. -/
theorem mbc5Bank_high (b : BitVec 9) (v : Byte) :
    (b &&& 0x0FF) ||| ((v &&& 0x01).setWidth 9 <<< 8) = BitVec.ofNat 9 (b.toNat % 256 + v.toNat % 2 * 256) := by
  rw [setWidth_and_mask v 9 2 1 rfl rfl, BitVec.or_comm, Nat.add_comm]
  refine or_fields 8 ?_ ?_ (Nat.mod_lt _ (by decide))
  · rw [BitVec.toNat_shiftLeft, BitVec.toNat_ofNat, Nat.shiftLeft_eq]; omega
  · rw [field_toNat b 0 8 rfl]; omega

/-- R162: bit 8 of an address. -/
theorem address_bit_eight (a : Word) : a.getLsbD 8 = decide (a.toNat / 256 % 2 = 1) :=
  Nat.testBit_eq_decide_div_mod_eq

/-! The commands. -/

/-- R158 to R161: the commands of an MBC1. -/
theorem mbc1Command_eq (b : Mbc) (a : Word) (v : Byte) :
    mbc1Command b a v =
      if a.toNat < 0x2000 then { b with ramEnabled := decide (v.toNat % 16 = 10) }
      else if a.toNat < 0x4000 then { b with currentBank := nonzeroBank (b.currentBank.toNat / 32 % 4 * 32 + v.toNat % 32) }
      else if a.toNat < 0x6000 then
        if b.ramMode then { b with ramBank := BitVec.ofNat 4 (v.toNat % 4) }
        else { b with currentBank := nonzeroBank (b.currentBank.toNat % 32 + v.toNat % 4 * 32) }
      else { b with ramMode := decide (v.toNat % 2 = 1) } := by
  unfold mbc1Command
  dsimp only
  rw [ramGate_eq, mbc1Bank_low, mbc1Bank_high, setWidth_and_mask v 4 4 2 rfl rfl, zeroToOne_ofNat (by omega),
    zeroToOne_ofNat (by omega), bitOf_zero]

/-- R162: the two commands of an MBC2, each a range of addresses and a value of address bit 8. -/
theorem mbc2Command_eq (b : Mbc) (a : Word) (v : Byte) :
    mbc2Command b a v =
      if a.toNat < 0x2000 ∧ a.toNat / 256 % 2 = 0 then { b with ramEnabled := decide (v.toNat % 16 = 10) }
      else if 0x2000 ≤ a.toNat ∧ a.toNat < 0x4000 ∧ a.toNat / 256 % 2 = 1 then
        { b with currentBank := nonzeroBank (v.toNat % 32) }
      else b := by
  have bank : zeroToOne ((v &&& 0x1F).setWidth 9) = nonzeroBank (v.toNat % 32) :=
    (congrArg zeroToOne (setWidth_and_mask v 9 32 5 rfl rfl)).trans (zeroToOne_ofNat (by omega))
  unfold mbc2Command
  simp only [address_bit_eight, ramGate_eq, bank, decide_eq_true_eq]
  by_cases gate : a.toNat < 0x2000
  · have noBank : ¬ 0x2000 ≤ a.toNat := Nat.not_le.2 gate
    rcases Nat.mod_two_eq_zero_or_one (a.toNat / 256) with bit | bit <;> simp [gate, noBank, bit]
  · by_cases inRange : a.toNat < 0x4000
    · rcases Nat.mod_two_eq_zero_or_one (a.toNat / 256) with bit | bit <;> simp [gate, Nat.not_lt.1 gate, inRange, bit]
    · simp [gate, inRange]

/-- R164 to R167: the commands of an MBC3. -/
theorem mbc3Command_eq (b : Mbc) (a : Word) (v : Byte) :
    mbc3Command b a v =
      if a.toNat < 0x2000 then { b with ramEnabled := decide (v.toNat % 16 = 10) }
      else if a.toNat < 0x4000 then { b with currentBank := nonzeroBank (v.toNat % 128) }
      else if a.toNat < 0x6000 then { b with ramBank := BitVec.ofNat 4 (v.toNat % 16) }
      else b := by
  unfold mbc3Command
  dsimp only
  rw [ramGate_eq, setWidth_and_mask v 9 128 7 rfl rfl, setWidth_and_mask v 4 16 4 rfl rfl, zeroToOne_ofNat (by omega)]

/-- R168, R169: the commands of an MBC5. -/
theorem mbc5Command_eq (b : Mbc) (a : Word) (v : Byte) :
    mbc5Command b a v =
      if a.toNat < 0x2000 then { b with ramEnabled := decide (v.toNat % 16 = 10) }
      else if a.toNat < 0x3000 then { b with currentBank := BitVec.ofNat 9 (b.currentBank.toNat / 256 * 256 + v.toNat) }
      else if a.toNat < 0x4000 then
        { b with currentBank := BitVec.ofNat 9 (b.currentBank.toNat % 256 + v.toNat % 2 * 256) }
      else if a.toNat < 0x6000 then { b with ramBank := BitVec.ofNat 4 (v.toNat % 8) }
      else b := by
  unfold mbc5Command
  dsimp only
  rw [ramGate_eq, mbc5Bank_low, mbc5Bank_high, setWidth_and_mask v 4 8 3 rfl rfl]

/-- R65, R156: a write to ROM is the command of the mapper on the fields of R36. -/
theorem busWrite_mapper {s : State} {a : Word} {m : Mapper} (v : Byte) (hm : s.cart.mapper = m) (h : a.toNat < 0x8000) :
    busWrite s a v = { s with mbc := mbcCommand m s.mbc a v } := by
  rw [busWrite_command v h, mbcWrite, hm]

/-- Settles O31: each range of addresses is one branch of the command. -/
theorem mbc1Commands : Obligations.Mbc1Commands := by
  intro s a v hm b select
  have write : a.toNat < 0x8000 → busWrite s a v = { s with mbc := mbc1Command s.mbc a v } := busWrite_mapper v hm
  have command := mbc1Command_eq s.mbc a v
  refine ⟨fun gate => ?_, fun lo hi => ?_, fun lo hi => ?_, fun lo hi => ?_⟩
  · rw [write (by omega), command, if_pos gate]
  · rw [write (by omega), command, if_neg (by omega), if_pos hi]
    rfl
  · rw [write (by omega), command, if_neg (by omega), if_neg (by omega), if_pos hi]
    split <;> rfl
  · rw [write hi, command, if_neg (by omega), if_neg (by omega), if_neg (by omega)]

/-- Settles O32: the branches of each command, one by one. -/
theorem mapperCommands : Obligations.MapperCommands := by
  refine ⟨fun s a v => ⟨fun hm h => ?mbc2, fun hm h => ?mbc3⟩, fun s a v => ⟨fun hm h => ?mbc5, fun hm h => ?noMapper⟩⟩
  case mbc2 => rw [busWrite_mapper v hm h, mbcCommand, mbc2Command_eq]; split_ifs <;> rfl
  case mbc3 => rw [busWrite_mapper v hm h, mbcCommand, mbc3Command_eq]; split_ifs <;> rfl
  case mbc5 => rw [busWrite_mapper v hm h, mbcCommand, mbc5Command_eq]; split_ifs <;> rfl
  case noMapper => exact busWrite_mapper v hm h

end Sys2Proof.Machine
end

section
/-! The real-time clock of an MBC3 (22_cartridge_mbc.md R174 to R176): the carry chain as division with remainder, and the time that it
leaves shown. -/

namespace Sys2Proof.Machine

section
variable (r : RtcRegs) (d : Nat)

/-- R176: the day counter that the carry chain reaches after `d` seconds, before it wraps at 512. -/
def daysAfter : Nat :=
  256 * (r.daysHi.toNat % 2) + r.daysLo.toNat + (r.hours.toNat + (r.minutes.toNat + (r.seconds.toNat + d) / 60) / 60) / 24

/-- R174: bit 8 of the day counter. -/
theorem daysBit_eq (v : Byte) : (if bitOf v 0 then 256 else 0) = 256 * (v.toNat % 2) := by
  rw [bitOf_zero]
  rcases Nat.mod_two_eq_zero_or_one v.toNat with h | h <;> simp [h]

/-- R176: seconds, minutes, hours and the low byte of the days keep the remainders. -/
theorem rtcCarry_time :
    (rtcCarry r d).seconds.toNat = (r.seconds.toNat + d) % 60 ∧
      (rtcCarry r d).minutes.toNat = (r.minutes.toNat + (r.seconds.toNat + d) / 60) % 60 ∧
      (rtcCarry r d).hours.toNat = (r.hours.toNat + (r.minutes.toNat + (r.seconds.toNat + d) / 60) / 60) % 24 ∧
      (rtcCarry r d).daysLo.toNat = daysAfter r d % 256 := by
  simp only [rtcCarry, daysBit_eq, BitVec.toNat_ofNat]
  exact ⟨by omega, by omega, by omega, rfl⟩

/-- R176: days-hi takes bit 8 of the day counter, and the carry bit where it overflows. -/
theorem rtcCarry_daysHi :
    (rtcCarry r d).daysHi =
      if 511 < daysAfter r d then putBit (putBit r.daysHi 0 ((daysAfter r d).testBit 8)) 7 true
      else putBit r.daysHi 0 ((daysAfter r d).testBit 8) := by
  simp only [rtcCarry, daysBit_eq]
  rfl

/-- R176: bit 0 of days-hi is bit 8 of the day counter, bit 7 is set by its overflow, the others stay. -/
theorem bitOf_rtcCarry_daysHi {k : Nat} (h : k < 8) :
    bitOf (rtcCarry r d).daysHi k =
      if k = 7 then bitOf r.daysHi 7 || decide (511 < daysAfter r d)
      else if k = 0 then (daysAfter r d).testBit 8 else bitOf r.daysHi k := by
  rw [rtcCarry_daysHi]
  by_cases overflow : 511 < daysAfter r d <;> simp only [overflow, if_true, if_false, bitOf_putBit _ _ _ _ h]
  · simp
  · by_cases top : k = 7 <;> simp [top]

/-- R176: bit 0 of days-hi as arithmetic. -/
theorem rtcCarry_daysHi_low : (rtcCarry r d).daysHi.toNat % 2 = daysAfter r d / 256 % 2 := by
  have low := bitOf_rtcCarry_daysHi r d (k := 0) (by decide)
  rw [bitOf_zero, if_neg (by decide), if_pos rfl, Nat.testBit_eq_decide_div_mod_eq, decide_eq_decide] at low
  omega

/-- R176: the other bits of days-hi stay. -/
theorem bitOf_rtcCarry_kept {k : Nat} (lo : 1 ≤ k) (hi : k < 7) : bitOf (rtcCarry r d).daysHi k = bitOf r.daysHi k := by
  rw [bitOf_rtcCarry_daysHi r d (by omega), if_neg (by omega), if_neg (by omega)]

/-- R176: the carry bit is set by an overflow of the day counter and never cleared. -/
theorem bitOf_rtcCarry_seven : bitOf (rtcCarry r d).daysHi 7 = (bitOf r.daysHi 7 || decide (511 < daysAfter r d)) := by
  rw [bitOf_rtcCarry_daysHi r d (by decide), if_pos rfl]

/-! The time shown. -/

/-- R174: the time shown, with the day counter as a number. -/
theorem RtcRegs.total_eq :
    r.total = (256 * (r.daysHi.toNat % 2) + r.daysLo.toNat) * 86400 + r.hours.toNat * 3600 + r.minutes.toNat * 60 +
      r.seconds.toNat := by
  have bit : (bitOf r.daysHi 0).toNat = r.daysHi.toNat % 2 := by
    rw [bitOf_zero]
    rcases Nat.mod_two_eq_zero_or_one r.daysHi.toNat with h | h <;> simp [h]
  rw [RtcRegs.total, bit]
  omega

/-- R176: the carry chain keeps the total, up to the wrap of the day counter, whatever the registers held. -/
theorem total_rtcCarry : (rtcCarry r d).total = (r.total + d) % (512 * 86400) := by
  obtain ⟨sec, min, hour, days⟩ := rtcCarry_time r d
  rw [RtcRegs.total_eq, RtcRegs.total_eq, sec, min, hour, days, rtcCarry_daysHi_low, daysAfter]
  omega

/-- R176: the carry chain leaves every register in its range. -/
theorem rtcCarry_normal : (rtcCarry r d).normal := by
  obtain ⟨sec, min, hour, -⟩ := rtcCarry_time r d
  unfold RtcRegs.normal
  rw [sec, min, hour]
  omega

/-- The day counter passes 511 exactly when the total passes 512 days. -/
theorem daysAfter_overflow : 511 < daysAfter r d ↔ 512 * 86400 ≤ r.total + d := by
  rw [RtcRegs.total_eq, daysAfter]
  omega

/-- R174: registers in their ranges show less than 512 days. -/
theorem RtcRegs.total_lt {r : RtcRegs} (h : r.normal) : r.total < 512 * 86400 := by
  obtain ⟨sec, min, hour⟩ := h
  have := r.daysLo.isLt
  rw [RtcRegs.total_eq]
  omega

/-! The update. -/

section
variable {r d}

/-- R176: a halted RTC stays, and so does one for which no time passes. -/
theorem rtcAdvance_stays (h : bitOf r.daysHi 6 = true ∨ d = 0) : rtcAdvance r d = r := by
  unfold rtcAdvance
  refine if_neg ?_
  rintro ⟨running, passed⟩
  rcases h with halted | none
  · rw [running] at halted; cases halted
  · omega

/-- R176: otherwise the carry chain runs. -/
theorem rtcAdvance_runs (running : bitOf r.daysHi 6 = false) (h : 0 < d) : rtcAdvance r d = rtcCarry r d :=
  if_pos ⟨running, h⟩

end
end

/-- Settles O33: the carry chain register by register, and the total that it keeps; with no time passed the total is below 512 days
already. -/
theorem rtcAdvances : Obligations.RtcAdvances := by
  refine ⟨fun s => rfl, fun r d => ?_⟩
  intro t sec min hour days
  refine ⟨rtcAdvance_stays, fun running passed => ?chain, fun running normal => ?total⟩
  case chain =>
    rw [show t = rtcCarry r d from rtcAdvance_runs running passed]
    obtain ⟨hsec, hmin, hhour, hdays⟩ := rtcCarry_time r d
    exact ⟨hsec, hmin, hhour, hdays, rtcCarry_daysHi_low r d, bitOf_rtcCarry_seven r d, fun k => bitOf_rtcCarry_kept r d⟩
  case total =>
    rcases Nat.eq_zero_or_pos d with none | passed
    · have below := RtcRegs.total_lt normal
      rw [show t = r from rtcAdvance_stays (.inr none), none, Nat.add_zero, Nat.mod_eq_of_lt below,
        decide_eq_false (Nat.not_le.2 below), Bool.or_false]
      exact ⟨normal, rfl, rfl, fun _ _ _ => rfl⟩
    · rw [show t = rtcCarry r d from rtcAdvance_runs running passed, bitOf_rtcCarry_seven,
        decide_eq_decide.2 (daysAfter_overflow r d)]
      exact ⟨rtcCarry_normal r d, total_rtcCarry r d, rfl, fun k => bitOf_rtcCarry_kept r d⟩

end Sys2Proof.Machine
end

section
/-! The construction of a machine (22_cartridge_mbc.md section 1): the image as a memory, the tables of the header codes, and when they
give a machine. -/

namespace Sys2Proof.Machine

/-! The image. -/

/-- Nothing is listed before the first byte of an image. -/
theorem lookup_ofBytes_before {base k : Nat} (h : k < base) (bs : List Byte) : Memory.lookup (Memory.ofBytes base bs) k = none := by
  induction bs generalizing base with
  | nil => rfl
  | cons b bs ih =>
    have later := ih (base := base + 1) (by omega)
    unfold Memory.ofBytes
    split
    · exact later
    · rw [Memory.lookup, if_neg (by omega), later]

/-- R150: cell `base + k` of an image holds its byte `k`; the zero bytes are those not listed. -/
theorem lookup_ofBytes (base k : Nat) (bs : List Byte) :
    (Memory.lookup (Memory.ofBytes base bs) (base + k)).getD 0x00 = bs.getD k 0x00 := by
  induction bs generalizing base k with
  | nil => rfl
  | cons b bs ih =>
    cases k with
    | zero =>
      unfold Memory.ofBytes
      split
      case isTrue zero => rw [Nat.add_zero base, lookup_ofBytes_before (Nat.lt_add_one base)]; exact zero.symm
      case isFalse => rw [Nat.add_zero base, Memory.lookup, if_pos rfl]; rfl
    | succ k =>
      have later := ih (base + 1) k
      rw [Nat.add_right_comm] at later
      unfold Memory.ofBytes
      split
      · exact later
      · rw [Memory.lookup, if_neg (by omega)]
        exact later

/-- R150: the ROM of a machine at power-on is its image. -/
theorem readCell_rom_powerOn (cart : Cart) (image : List Byte) (cram : Memory) (keys : Byte) (k : Nat) :
    readCell (State.powerOn cart (Memory.ofBytes 0 image) cram keys) .rom k = image.getD k 0x00 := by
  have cell := lookup_ofBytes 0 k image
  rwa [Nat.zero_add] at cell

/-! The tables. -/

/-- R152: the ROM size codes and their numbers of banks. -/
def romSizes : List (Byte × Nat) :=
  [(0x00, 2), (0x01, 4), (0x02, 8), (0x03, 16), (0x04, 32), (0x05, 64), (0x06, 128), (0x07, 256), (0x52, 72), (0x53, 80),
    (0x54, 96)]

/-- R153: the RAM size codes and their numbers of banks. -/
def ramSizes : List (Byte × Nat) := [(0x00, 0), (0x01, 1), (0x02, 1), (0x03, 4), (0x04, 16)]

/-- R154: the cartridge types and their mapper families. -/
def cartTypes : List (Byte × Mapper) :=
  [(0x00, .noMapper), (0x08, .noMapper), (0x09, .noMapper), (0x01, .mbc1), (0x02, .mbc1), (0x03, .mbc1), (0x05, .mbc2),
    (0x06, .mbc2), (0x0F, .mbc3), (0x10, .mbc3), (0x11, .mbc3), (0x12, .mbc3), (0x13, .mbc3), (0x19, .mbc5),
    (0x1A, .mbc5), (0x1B, .mbc5), (0x1C, .mbc5), (0x1D, .mbc5), (0x1E, .mbc5)]

/-- A function on codes is a table when every value of it is an entry and every entry is a value of it. -/
theorem eq_some_iff_mem {α : Type} {f : Byte → Option α} {table : List (Byte × α)} (values : ∀ c, ∀ x ∈ f c, (c, x) ∈ table)
    (entries : ∀ e ∈ table, f e.1 = some e.2) (c : Byte) (x : α) : f c = some x ↔ (c, x) ∈ table :=
  ⟨values c x, entries (c, x)⟩

theorem romBanksOf_eq_some : ∀ (c : Byte) (n : Nat), romBanksOf c = some n ↔ (c, n) ∈ romSizes :=
  eq_some_iff_mem (by decide +kernel) (by decide)

theorem ramBanksOf_eq_some : ∀ (c : Byte) (n : Nat), ramBanksOf c = some n ↔ (c, n) ∈ ramSizes :=
  eq_some_iff_mem (by decide +kernel) (by decide)

theorem mapperOf_eq_some : ∀ (c : Byte) (m : Mapper), mapperOf c = some m ↔ (c, m) ∈ cartTypes :=
  eq_some_iff_mem (by decide +kernel) (by decide)

/-! The machine. -/

/-- R151: the header gives parameters exactly when its three codes have entries. -/
theorem ofHeader_eq_ok {flag type romCode ramCode : Byte} {rtc : RtcRegs} {stat : StatTable} {cart : Cart} :
    Cart.ofHeader flag type romCode ramCode rtc stat = .ok cart ↔
      (romCode, cart.romBanks) ∈ romSizes ∧ (ramCode, cart.ramBanks) ∈ ramSizes ∧ (type, cart.mapper) ∈ cartTypes ∧
        cart.cgb = bitOf flag 7 ∧ cart.rtcInit = rtc ∧ cart.statMode = stat := by
  rw [← romBanksOf_eq_some, ← ramBanksOf_eq_some, ← mapperOf_eq_some]
  obtain ⟨mapper, romBanks, ramBanks, cgb, rtcInit, statMode⟩ := cart
  unfold Cart.ofHeader
  cases romBanksOf romCode with
  | none => simp
  | some n =>
    cases ramBanksOf ramCode with
    | none => simp
    | some m =>
      cases mapperOf type with
      | none => simp
      | some f =>
        constructor
        · rintro ⟨⟩; exact ⟨rfl, rfl, rfl, rfl, rfl, rfl⟩
        · rintro ⟨⟨⟩, ⟨⟩, ⟨⟩, rfl, rfl, rfl⟩; rfl

/-- R155: a machine is constructed when the header gives parameters and the image has the length that they say. -/
theorem loadCartridge_eq_ok {image : List Byte} {cram : Memory} {rtc : RtcRegs} {stat : StatTable} {keys : Byte} {s : State} :
    loadCartridge image cram rtc stat keys = .ok s ↔
      ∃ cart, Cart.ofHeader (image.getD 0x143 0x00) (image.getD 0x147 0x00) (image.getD 0x148 0x00) (image.getD 0x149 0x00)
          rtc stat = .ok cart ∧
        image.length = cart.romBanks * 16384 ∧ s = State.powerOn cart (Memory.ofBytes 0 image) cram keys := by
  unfold loadCartridge
  dsimp only
  cases Cart.ofHeader (image.getD 0x143 0x00) (image.getD 0x147 0x00) (image.getD 0x148 0x00) (image.getD 0x149 0x00)
    rtc stat with
  | error e => simp
  | ok cart => by_cases length : image.length = cart.romBanks * 16384 <;> simp [length, eq_comm]

/-- Settles O34: the header's entries are the parameters of the machine that they give. -/
theorem cartridgeConstruction : Obligations.CartridgeConstruction := by
  intro image cram rtc stat keys header romTable ramTable mapperTable
  refine ⟨⟨?_, ?_⟩, fun s loaded => ?_⟩
  · rintro ⟨s, loaded⟩
    obtain ⟨cart, parameters, length, -⟩ := loadCartridge_eq_ok.1 loaded
    obtain ⟨rom, ram, mapper, -⟩ := ofHeader_eq_ok.1 parameters
    exact ⟨⟨_, rom, length⟩, ⟨_, ram⟩, ⟨_, mapper⟩⟩
  · rintro ⟨⟨n, rom, length⟩, ⟨m, ram⟩, ⟨f, mapper⟩⟩
    exact ⟨_, loadCartridge_eq_ok.2 ⟨⟨f, n, m, bitOf (header 0x143) 7, rtc, stat⟩,
      ofHeader_eq_ok.2 ⟨rom, ram, mapper, rfl, rfl, rfl⟩, length, rfl⟩⟩
  · obtain ⟨cart, parameters, -, rfl⟩ := loadCartridge_eq_ok.1 loaded
    obtain ⟨rom, ram, mapper, cgb, rtcInit, statMode⟩ := ofHeader_eq_ok.1 parameters
    exact ⟨fun k _ => readCell_rom_powerOn cart image cram keys k, rom, ram, mapper, cgb.trans (bitOf_seven _), rfl, rfl,
      rtcInit, statMode⟩

end Sys2Proof.Machine
end

section
/-! The byte coding of instructions (30_encoding.md): what each first byte decodes to and how it is encoded again, what each
instruction's bytes decode to, and from these two the round trips and the fetch. -/

namespace Sys2Proof.Machine

/-! First bytes. -/

/-- R200: an instruction takes one, two or three bytes. -/
theorem instrLength_cases : ∀ op : Byte, instrLength op = 1 ∨ instrLength op = 2 ∨ instrLength op = 3 := by decide

/-- R203, R214: the prefix and the second byte are read back from the instruction they select. -/
theorem encode_decodeExtended : ∀ b : Byte, encode (decodeExtended b) = [0xCB, b] := by decide

/-- A property of all bytes is one of the 256 rows of a table. -/
theorem byte_cases {P : Byte → Prop} (row : ∀ n < 256, P (BitVec.ofNat 8 n)) (op : Byte) : P op := by
  simpa using row op.toNat op.isLt

/-- R207, R213: the row of the primary table under `op`, encoded; behind the prefix the second byte selects (R203), and a 16-bit
operand is still one word (R206). -/
theorem encode_decode_row (op b1 b2 : Byte) : encode (decode op b1 b2) =
    if op = 0xCB then encode (decodeExtended b1)
    else if instrLength op = 3 then op :: wordBytes (joinBytes b2 b1)
    else if instrLength op = 2 then [op, b1] else [op] := by
  induction op using byte_cases with
  | row n below => interval_cases n <;> rfl

/-- R200, R207: of the first byte and the two after it, the encoding has as many as the first byte asks for. -/
theorem encode_decode (op b1 b2 : Byte) : encode (decode op b1 b2) = [op, b1, b2].take (instrLength op) := by
  rw [encode_decode_row]
  split
  · next prefixed => subst prefixed; exact encode_decodeExtended b1
  · obtain len | len | len := instrLength_cases op <;> simp [len, wordBytes]

theorem length_encode_decode (op b1 b2 : Byte) : (encode (decode op b1 b2)).length = instrLength op := by
  rw [encode_decode]
  obtain len | len | len := instrLength_cases op <;> simp [len]

/-! Instructions. -/

/-- The instruction that a code string holds, each operand byte that it does not have being 0x00 (R205). -/
def decodeCode : List Byte → Instr
  | [op, b1, b2] => decode op b1 b2
  | [op, b1] => decode op b1 0x00
  | [op] => decode op 0x00 0x00
  | _ => .nop

/-- R213, R214: every instruction stands in the tables where its bytes say; a 16-bit operand is joined from its two (R206). -/
theorem decodeCode_encode (i : Instr) : decodeCode (encode i) = i := by
  cases i with
  | ldBCNn nn | ldMemNnSP nn | ldDENn nn | ldHLNn nn | ldSPNn nn | jpNZNn nn | jpNn nn | callNZNn nn | jpZNn nn | callZNn nn
  | callNn nn | jpNCNn nn | callNCNn nn | jpCNn nn | callCNn nn | ldMemNnA nn | ldAMemNn nn =>
    exact congrArg _ (joinBytes_hi_lo nn)
  | _ => rfl

/-- Every instruction stands in the tables. -/
theorem exists_decode_eq (i : Instr) : ∃ op b1 b2, decode op b1 b2 = i := by
  have same := decodeCode_encode i
  unfold decodeCode at same
  split at same
  exacts [⟨_, _, _, same⟩, ⟨_, _, _, same⟩, ⟨_, _, _, same⟩, ⟨0x00, 0x00, 0x00, same⟩]

/-- R201, R207: the bytes of an instruction begin with its first byte, which gives their number. -/
theorem encode_shape (i : Instr) : ∃ op tail, encode i = op :: tail ∧ (op :: tail).length = instrLength op := by
  obtain ⟨op, b1, b2, rfl⟩ := exists_decode_eq i
  rw [encode_decode]
  obtain one | two | three := instrLength_cases op
  · exact ⟨op, [], by simp [one], one.symm⟩
  · exact ⟨op, [b1], by simp [two], two.symm⟩
  · exact ⟨op, [b1, b2], by simp [three], three.symm⟩

/-! Byte strings. -/

/-- R200, R203: as many bytes as the first asks for have the shape of one instruction. -/
theorem codeWellFormed_of_length {op : Byte} {tail : List Byte} (len : (op :: tail).length = instrLength op) :
    codeWellFormed (op :: tail) = true := by
  rw [List.length_cons] at len
  simp only [codeWellFormed]
  split
  · next prefixed =>
    have two : instrLength op = 2 := by rw [prefixed]; rfl
    simp only [beq_iff_eq]; omega
  · have := instrLength_cases op
    simp only [decide_eq_true_eq]; omega

/-- R205: as many bytes as the first asks for are taken, and what follows is left over. -/
theorem decodeBytes_append {op : Byte} {tail : List Byte} (len : (op :: tail).length = instrLength op) (rest : List Byte) :
    decodeBytes (op :: tail ++ rest) = .ok (decodeCode (op :: tail), rest) := by
  have bound := instrLength_cases op
  match tail with
  | [] | [_] | [_, _] => simp [decodeBytes, decodeCode, ← len]
  | _ :: _ :: _ :: _ => simp only [List.length_cons] at len; omega

/-- R205: what `decodeBytes` took from a byte string, and what it decoded. -/
theorem decodeBytes_eq_ok {bytes rest : List Byte} {i : Instr} (h : decodeBytes bytes = .ok (i, rest)) :
    ∃ op b1 b2, i = decode op b1 b2 ∧ bytes = [op, b1, b2].take (instrLength op) ++ rest := by
  unfold decodeBytes at h
  split at h
  · cases h
  · next op tail =>
    split at h <;> cases h
    all_goals next len => exact ⟨op, _, _, rfl, by simp [len]⟩

/-- Settles O1: the bytes of an instruction are as many as the first of them asks for, and the tables hold the instruction under
them. -/
theorem decodeOfEncode : Obligations.DecodeOfEncode := by
  intro i rest _
  obtain ⟨op, tail, bytes, len⟩ := encode_shape i
  have same := decodeCode_encode i
  rw [bytes] at same ⊢
  exact ⟨codeWellFormed_of_length len, (decodeBytes_append len rest).trans (by rw [same])⟩

/-- Settles O2: the encoding of what the tables hold under the bytes taken is those bytes; the lengths are counted over R207. -/
theorem encodeOfDecode : Obligations.EncodeOfDecode := by
  refine ⟨fun bytes rest i h => ?_, length_encode_decode, by decide +kernel, by decide +kernel, by decide +kernel⟩
  obtain ⟨op, b1, b2, rfl, rfl⟩ := decodeBytes_eq_ok h
  rw [encode_decode]

/-- Settles O3: each of the twelve is one look into the tables. -/
theorem specWordsDecode : Obligations.SpecWordsDecode :=
  ⟨rfl, rfl, rfl, rfl, rfl, rfl, rfl, rfl, rfl, rfl, rfl, rfl⟩

/-! The fetch. -/

/-- R205, R207: the fetch reads from PC as many bytes as the first of them asks for, decodes them, and moves PC past them. -/
theorem fetch_eq_readRun {s : State} {n : Nat} (len : instrLength (busRead s s.regs.pc).1 = n) :
    fetch s = (decodeCode (readRun s s.regs.pc n).1, setPc (readRun s s.regs.pc n).2 (s.regs.pc + BitVec.ofNat 16 n)) := by
  subst len
  have third : s.regs.pc + 1#16 + 1#16 = s.regs.pc + 2#16 := word_add_two _
  unfold fetch
  obtain len | len | len := instrLength_cases (busRead s s.regs.pc).1 <;> simp [len, fetchOperand, readRun, decodeCode, third]

/-- The machine whose bytes at PC are those of `i` fetches `i`. -/
theorem fetch_of_readRun {s : State} {i : Instr} (bytes : (readRun s s.regs.pc (encode i).length).1 = encode i) :
    fetch s = (i, setPc (readRun s s.regs.pc (encode i).length).2 (s.regs.pc + BitVec.ofNat 16 (encode i).length)) := by
  obtain ⟨op, tail, code, len⟩ := encode_shape i
  have first : (busRead s s.regs.pc).1 = op := by
    rw [code] at bytes
    exact (List.cons.inj bytes).1
  rw [fetch_eq_readRun (n := (encode i).length) (by rw [first, code, len]), bytes, decodeCode_encode]

/-- Settles O4: the fetch answers `i` and the state past its bytes, and every instruction answers a next state, which the step
completes. -/
theorem stepRunsDecoded : Obligations.StepRunsDecoded := by
  intro s i running bytes
  obtain ⟨t, answer, -, completed⟩ := step_running running
  rw [fetch_of_readRun bytes] at answer
  rw [completed, answer]
  rfl

end Sys2Proof.Machine
end

section
/-! The form tables of Safety/Forms.lean, each with the shared operation that its rows run (43_alu8.md R290 to R302, 44_alu16.md
R310 to R313, 45_rotate_shift_bit.md R324 to R333). -/

namespace Sys2Proof.Machine

/-- Every row of the table decodes to its instruction, and the instruction runs `op` on the operand of the row. -/
def Runs {α : Type} (op : α → State → Result) (table : List (Form α)) : Prop :=
  ∀ f ∈ table, f.decodes ∧ ∀ s, exec f.instr s = op f.arg s

/-- Two columns computed from a table say that it runs `op`: what its bytes decode to, and what its instructions do. -/
theorem runs_of_columns {α : Type} {op : α → State → Result} {table : List (Form α)}
    (columns : table.map (fun f => (decodeBytes f.bytes, exec f.instr)) = table.map fun f => (.ok (f.instr, []), op f.arg)) :
    Runs op table := by
  intro f row
  obtain ⟨decodes, runs⟩ := Prod.mk.inj (List.map_inj_left.1 columns f row)
  exact ⟨decodes, congrFun runs⟩

theorem runs_addForms (n : Byte) : Runs opAdd (addForms n) := runs_of_columns rfl
theorem runs_adcForms (n : Byte) : Runs opAdc (adcForms n) := runs_of_columns rfl
theorem runs_subForms (n : Byte) : Runs opSub (subForms n) := runs_of_columns rfl
theorem runs_sbcForms (n : Byte) : Runs opSbc (sbcForms n) := runs_of_columns rfl
theorem runs_andForms (n : Byte) : Runs opAnd (andForms n) := runs_of_columns rfl
theorem runs_xorForms (n : Byte) : Runs opXor (xorForms n) := runs_of_columns rfl
theorem runs_orForms (n : Byte) : Runs opOr (orForms n) := runs_of_columns rfl
theorem runs_cpForms (n : Byte) : Runs opCp (cpForms n) := runs_of_columns rfl
theorem runs_incForms : Runs opInc incForms := runs_of_columns rfl
theorem runs_decForms : Runs opDec decForms := runs_of_columns rfl
theorem runs_addHLForms : Runs opAddHL addHLForms := runs_of_columns rfl
theorem runs_incPairForms : Runs opIncPair incPairForms := runs_of_columns rfl
theorem runs_decPairForms : Runs opDecPair decPairForms := runs_of_columns rfl
theorem runs_addSpForms (e : Byte) : Runs (fun p => opAddSp p e) (addSpForms e) := runs_of_columns rfl
theorem runs_rlcForms : Runs opRlc rlcForms := runs_of_columns rfl
theorem runs_rrcForms : Runs opRrc rrcForms := runs_of_columns rfl
theorem runs_rlForms : Runs opRl rlForms := runs_of_columns rfl
theorem runs_rrForms : Runs opRr rrForms := runs_of_columns rfl
theorem runs_slaForms : Runs opSla slaForms := runs_of_columns rfl
theorem runs_sraForms : Runs opSra sraForms := runs_of_columns rfl
theorem runs_swapForms : Runs opSwap swapForms := runs_of_columns rfl
theorem runs_srlForms : Runs opSrl srlForms := runs_of_columns rfl
theorem runs_bitForms : Runs (fun p => opBit p.1 p.2) bitForms := runs_of_columns rfl

end Sys2Proof.Machine
end

section
/-! 8-bit arithmetic and logic (43_alu8.md R290 to R306) by the arithmetic of the ALU functions (40_alu_helpers.md R230 to R239). -/

namespace Sys2Proof.Machine

/-! The accumulator operations. -/

/-- R250: the four flags `(Z, N, HF, CY)` after `o` is written to F: each is what `o` produces, or as it was. -/
def FlagOut.over (o : FlagOut) (f : Byte) : Bool × Bool × Bool × Bool :=
  (o.z.getD (zFlag f), o.n.getD (nFlag f), o.h.getD (hFlag f), o.c.getD (cFlag f))

/-- R290: the outcome is a next state in which A is `r`, the flags are `fl`, and all else is as after the read of `x`. -/
def WritesAccumulator (s : State) (x : Src) (r : Byte) (fl : Bool × Bool × Bool × Bool) (outcome : Result) : Prop :=
  ∃ t, outcome = .next t ∧ t.regs.a = r ∧ flagsOf t.regs.f = fl ∧
    onlyAccumulator s t ∧ sameButRegs (srcState s x) t ∧ cellsSame s t

/-- What a function of the old A, the operand and the old CY computes is what the accumulator operation leaves. -/
theorem writesAccumulator_opAcc (fn : Byte → Byte → Bool → Byte × FlagOut) (s : State) (x : Src) :
    WritesAccumulator s x (fn s.regs.a (srcValue s x) (cFlag s.regs.f)).1
      ((fn s.regs.a (srcValue s x) (cFlag s.regs.f)).2.over s.regs.f) (opAcc fn x s) :=
  ⟨_, opAcc_eq fn s x, accumulator_written s x _ _⟩

/-- R298: `CP` leaves the flags of `SUB8`, and the A it had. -/
theorem writesAccumulator_opCp (s : State) (x : Src) :
    WritesAccumulator s x s.regs.a ((sub8 s.regs.a (srcValue s x) false).2.over s.regs.f) (opCp x s) :=
  ⟨_, opCp_eq s x, accumulator_written s x _ _⟩

/-- Settles O45: `ADD` is `ADC` with no carry in; both write what `ADD8` computes. -/
theorem addAndAdc : Obligations.AddAndAdc := by
  intro s n run
  have rows {op : Src → State → Result} {cin : Bool}
      (writes : ∀ x, WritesAccumulator s x (add8 s.regs.a (srcValue s x) cin).1
        ((add8 s.regs.a (srcValue s x) cin).2.over s.regs.f) (op x s))
      {table : List (Form Src)} (runs : Runs op table) : ∀ f ∈ table, run f cin.toNat := by
    intro f row
    obtain ⟨decodes, answer⟩ := runs f row
    obtain ⟨sum, flags⟩ := add8_values s.regs.a (srcValue s f.arg) cin
    obtain ⟨t, next, a, produced, frame⟩ := writes f.arg
    exact ⟨decodes, t, (answer s).trans next, by rw [a, sum], by rw [produced, flags]; rfl, frame⟩
  exact ⟨rows (cin := false) (writesAccumulator_opAcc _ s) (runs_addForms n),
    rows (writesAccumulator_opAcc _ s) (runs_adcForms n)⟩

/-- Settles O46: `SUB` is `SBC` with no borrow in, and `CP` writes the old A where `SUB` writes the difference. -/
theorem subSbcAndCp : Obligations.SubSbcAndCp := by
  intro s n run
  have rows {op : Src → State → Result} {cin keep : Bool}
      (writes : ∀ x, WritesAccumulator s x (if keep then s.regs.a else (sub8 s.regs.a (srcValue s x) cin).1)
        ((sub8 s.regs.a (srcValue s x) cin).2.over s.regs.f) (op x s))
      {table : List (Form Src)} (runs : Runs op table) : ∀ f ∈ table, run f cin.toNat keep := by
    intro f row
    obtain ⟨decodes, answer⟩ := runs f row
    obtain ⟨difference, flags⟩ := sub8_values s.regs.a (srcValue s f.arg) cin
    obtain ⟨t, next, a, produced, frame⟩ := writes f.arg
    exact ⟨decodes, t, (answer s).trans next, by rw [a, apply_ite BitVec.toNat, difference],
      by rw [produced, flags]; rfl, frame⟩
  exact ⟨rows (cin := false) (keep := false) (writesAccumulator_opAcc _ s) (runs_subForms n),
    rows (keep := false) (writesAccumulator_opAcc _ s) (runs_sbcForms n),
    rows (cin := false) (keep := true) (writesAccumulator_opCp s) (runs_cpForms n)⟩

theorem bitOf_xor (x y : Byte) (k : Nat) : bitOf (x ^^^ y) k = (bitOf x k ^^ bitOf y k) := BitVec.getLsbD_xor

/-- Settles O47: the three are one operation on each bit, and tell Z from the result. -/
theorem andXorOr : Obligations.AndXorOr := by
  intro s n run
  have rows {op : Byte → Byte → Byte} {bit : Bool → Bool → Bool} {h : Bool}
      (bits : ∀ x y k, bitOf (op x y) k = bit (bitOf x k) (bitOf y k)) {table : List (Form Src)}
      (runs : Runs (opAcc fun a v _ => (op a v, ⟨some (op a v == 0), some false, some h, some false⟩)) table) :
      ∀ f ∈ table, run f bit h := by
    intro f row
    obtain ⟨decodes, answer⟩ := runs f row
    obtain ⟨t, next, a, produced, frame⟩ := writesAccumulator_opAcc _ s f.arg
    exact ⟨decodes, t, (answer s).trans next, fun k _ => by rw [a, bits], by rw [produced, a]; rfl, frame⟩
  exact ⟨rows bitOf_and (runs_andForms n), rows bitOf_xor (runs_xorForms n), rows bitOf_or (runs_orForms n)⟩

/-! Operations on A alone. -/

/-- The outcome is a next state in which A is `r`, the flags are `fl`, and all else is as before. -/
def WritesA (s : State) (r : Byte) (fl : Bool × Bool × Bool × Bool) (outcome : Result) : Prop :=
  ∃ t, outcome = .next t ∧ t.regs.a = r ∧ flagsOf t.regs.f = fl ∧ onlyAccumulator s t ∧ sameButRegs s t

/-- Such an operation is one whose operand is an immediate that it does not look at. -/
theorem writesA_setFlags (s : State) (r : Byte) (o : FlagOut) :
    WritesA s r (o.over s.regs.f) (.next (setFlags (setReg8 s .a r) o)) := by
  obtain ⟨a, produced, only, same, -⟩ := accumulator_written s (.imm 0) r o
  exact ⟨_, rfl, a, produced, only, same⟩

theorem xor_FF_toNat (v : Byte) : (v ^^^ 0xFF : Byte).toNat = 255 - v.toNat := by
  rw [show v ^^^ 0xFF = ~~~v from BitVec.xor_allOnes, BitVec.toNat_not]

/-- Settles O49: `DAA` writes what `DAA8` computes; `SCF` and `CCF` write back the A that they found. -/
theorem decimalAdjustAndCarry : Obligations.DecimalAdjustAndCarry := by
  refine ⟨fun s => ⟨rfl, ?daa⟩, fun s => ⟨⟨rfl, ?cpl⟩, ⟨rfl, ?scf⟩, ⟨rfl, ?ccf⟩⟩⟩
  case daa =>
    obtain ⟨adjusted, flags⟩ := daa8_values (nFlag s.regs.f) (hFlag s.regs.f) (cFlag s.regs.f) s.regs.a
    obtain ⟨t, next, a, produced, frame⟩ := writesA_setFlags s (daa8 s.regs.a _ _ _).1 (daa8 s.regs.a _ _ _).2
    exact ⟨t, next, by rw [a, adjusted], by rw [produced, flags, a]; rfl, frame⟩
  case cpl =>
    obtain ⟨t, next, a, rest⟩ := writesA_setFlags s (s.regs.a ^^^ 0xFF) ⟨none, some true, some true, none⟩
    exact ⟨t, next, by rw [a, xor_FF_toNat], rest⟩
  case scf => exact writesA_setFlags s s.regs.a ⟨none, some false, some false, some true⟩
  case ccf => exact writesA_setFlags s s.regs.a ⟨none, some false, some false, some (!cFlag s.regs.f)⟩

end Sys2Proof.Machine
end

section
/-! `INC` and `DEC` of a register or the byte at HL (43_alu8.md R299 to R302): the operations that write a result back (R324). -/

namespace Sys2Proof.Machine

/-- R324: an instruction that reads its operand, writes the flags `o` and then the result `r` back rewrites the operand. -/
theorem rewrites_of_next {i : Instr} {s : State} {tg : Target} {r : Byte} {o : FlagOut}
    (answer : exec i s = .next (writeTarget (setFlags (readTarget s tg).2 o) tg r)) : rewrites i s tg r (o.over s.regs.f) :=
  ⟨_, answer, target_written s tg r o fun u => writeFrame_busWrite u s.hl r⟩

theorem opInc_eq (s : State) (tg : Target) :
    opInc tg s = .next (writeTarget (setFlags (readTarget s tg).2 (inc8 (targetValue s tg)).2) tg (inc8 (targetValue s tg)).1) := by
  simp only [opInc, readTarget_fst]

theorem opDec_eq (s : State) (tg : Target) :
    opDec tg s = .next (writeTarget (setFlags (readTarget s tg).2 (dec8 (targetValue s tg)).2) tg (dec8 (targetValue s tg)).1) := by
  simp only [opDec, readTarget_fst]

/-- Settles O48: what is written back is what `INC8` and `DEC8` compute, and neither produces CY. -/
theorem incAndDec : Obligations.IncAndDec := by
  refine fun s => ⟨fun f row => ?inc, fun f row => ?dec⟩
  case inc =>
    obtain ⟨decodes, answer⟩ := runs_incForms f row
    have rewritten := rewrites_of_next ((answer s).trans (opInc_eq s f.arg))
    rw [(step8_values _).1] at rewritten
    exact ⟨decodes, rewritten⟩
  case dec =>
    obtain ⟨decodes, answer⟩ := runs_decForms f row
    have rewritten := rewrites_of_next ((answer s).trans (opDec_eq s f.arg))
    rw [(step8_values _).2] at rewritten
    exact ⟨decodes, rewritten⟩

end Sys2Proof.Machine
end

section
/-! The property of `DAA` (40_alu_helpers.md R239, D8): the adjustment of a sum or a difference of BCD bytes, digit by digit. -/

namespace Sys2Proof.Machine

section
variable {x y : Nat} (hx : x < 100) (hy : y < 100)
include hx

theorem bcd_toNat : (bcd x).toNat = x / 10 * 16 + x % 10 := by
  rw [bcd, BitVec.toNat_ofNat]; omega

include hy

/-- After an addition the low nibble asks for its adjustment when the units carry, the byte for the other when the number does. -/
theorem bcd_carries :
    ((bcd x).toNat % 16 + (bcd y).toNat % 16 > 15 ∨ 9 < ((bcd x).toNat + (bcd y).toNat) % 256 % 16 ↔ 10 ≤ x % 10 + y % 10) ∧
      ((bcd x).toNat + (bcd y).toNat > 255 ∨ 0x99 < ((bcd x).toNat + (bcd y).toNat) % 256 ↔ 100 ≤ x + y) := by
  have digits_x := bcd_toNat hx
  have digits_y := bcd_toNat hy
  have tens : x / 10 + y / 10 < 9 ∨ x / 10 + y / 10 = 9 ∨ 9 < x / 10 + y / 10 := by omega
  exact ⟨by omega, by omega⟩

/-- The sum of two BCD bytes, adjusted for the carries. -/
theorem bcd_sum_adjusted :
    (((bcd x).toNat + (bcd y).toNat) % 256 + ((if 10 ≤ x % 10 + y % 10 then 0x06 else 0) + if 100 ≤ x + y then 0x60 else 0)) % 256 =
      (bcd ((x + y) % 100)).toNat := by
  rw [bcd_toNat hx, bcd_toNat hy, bcd_toNat (by omega)]
  have tens : x / 10 + y / 10 < 9 ∨ x / 10 + y / 10 = 9 ∨ 9 < x / 10 + y / 10 := by omega
  split <;> split <;> omega

/-- After a subtraction the low nibble borrowed when the units do, the byte when the number does. -/
theorem bcd_borrows :
    ((bcd x).toNat % 16 < (bcd y).toNat % 16 ↔ x % 10 < y % 10) ∧ ((bcd x).toNat < (bcd y).toNat ↔ x < y) := by
  rw [bcd_toNat hx, bcd_toNat hy]; omega

/-- The difference of two BCD bytes, adjusted for the borrows. -/
theorem bcd_difference_adjusted :
    (256 + (256 + (bcd x).toNat - (bcd y).toNat) % 256 - ((if x % 10 < y % 10 then 0x06 else 0) + if x < y then 0x60 else 0)) % 256 =
      (bcd ((100 + x - y) % 100)).toNat := by
  rw [bcd_toNat hx, bcd_toNat hy, bcd_toNat (by omega)]
  split <;> split <;> omega

end

/-- Settles O50: `DAA` asks what the addition or the subtraction left, and its two adjustments are the carries or borrows of the
digits. -/
theorem bcdArithmetic : Obligations.BcdArithmetic := by
  refine fun s x y hx hy a => ⟨?sum, ?difference⟩
  case sum =>
    obtain ⟨-, t, added, result, flags, -⟩ :=
      (addAndAdc s (bcd y)).1 ⟨[0xC6, bcd y], .addAN (bcd y), .imm (bcd y)⟩ (by simp [addForms])
    obtain ⟨-, u, adjusted, final, produced, -⟩ := decimalAdjustAndCarry.1 t
    obtain ⟨units, number⟩ := bcd_carries hx hy
    simp only [flagsOf, Prod.mk.injEq, srcValue, a, Nat.add_zero] at flags produced result
    obtain ⟨-, n, h, c⟩ := flags
    simp only [n, h, c, result, Bool.false_eq_true, if_false, ← Bool.decide_or, decide_eq_true_eq, units, number]
      at final produced
    obtain ⟨-, -, -, carry⟩ := produced
    exact ⟨t, u, added, adjusted, BitVec.eq_of_toNat_eq (final.trans (bcd_sum_adjusted hx hy)), carry⟩
  case difference =>
    obtain ⟨-, t, subtracted, result, flags, -⟩ :=
      (subSbcAndCp s (bcd y)).1 ⟨[0xD6, bcd y], .subAN (bcd y), .imm (bcd y)⟩ (by simp [subForms])
    obtain ⟨-, u, adjusted, final, produced, -⟩ := decimalAdjustAndCarry.1 t
    obtain ⟨units, number⟩ := bcd_borrows hx hy
    simp only [flagsOf, Prod.mk.injEq, srcValue, a, Nat.add_zero] at flags produced result
    obtain ⟨-, n, h, c⟩ := flags
    simp only [n, h, c, result, Bool.false_eq_true, if_false, if_true, decide_eq_true_eq, units, number]
      at final produced
    obtain ⟨-, -, -, borrow⟩ := produced
    exact ⟨t, u, subtracted, adjusted, BitVec.eq_of_toNat_eq (final.trans (bcd_difference_adjusted hx hy)), borrow⟩

end Sys2Proof.Machine
end

section
/-! 16-bit arithmetic (44_alu16.md R310 to R313, 42_load16_stack.md R283). -/

namespace Sys2Proof.Machine

/-- R250: where F is what writing `o` makes of it, the flags are so, and the low nibble is as before. -/
theorem producedFlags {s t : State} {o : FlagOut} (f : t.regs.f = writeFlags s.regs.f o) :
    flagsOf t.regs.f = o.over s.regs.f ∧ lowNibbleSame s t := by
  unfold lowNibbleSame
  rw [f]
  exact ⟨flagsOf_writeFlags _ _, writeFlags_low _ _⟩

/-- A pair and the flags written: those, and nothing else. -/
theorem pairAndFlags_written (s : State) {p : Pair} (w : Word) (o : FlagOut) (h : p ≠ .af) :
    let t := setFlags (setPair s p w) o
    t.regs.get16 p = w ∧ flagsOf t.regs.f = o.over s.regs.f ∧ lowNibbleSame s t ∧ sameButRegs s t := by
  intro t
  have f : t.regs.f = writeFlags s.regs.f o := congrArg (writeFlags · o) (set16_f s.regs w h)
  have pair : t.regs.get16 p = (s.regs.set16 p w).get16 p := by
    cases p
    case af => exact absurd rfl h
    all_goals rfl
  obtain ⟨produced, low⟩ := producedFlags f
  exact ⟨pair.trans (get16_set16 s.regs p w h), produced, low, rfl, fun _ _ => rfl⟩

theorem incPair_ne_af : ∀ f ∈ incPairForms, f.arg ≠ .af := by decide
theorem decPair_ne_af : ∀ f ∈ decPairForms, f.arg ≠ .af := by decide

theorem word_inc (w : Word) : w + 1 = BitVec.ofNat 16 (w.toNat + 1) := by
  rw [BitVec.ofNat_add, BitVec.ofNat_toNat, BitVec.setWidth_eq]; rfl

theorem word_dec (w : Word) : w - 1 = BitVec.ofNat 16 (w.toNat + 65535) := by
  rw [BitVec.ofNat_add, BitVec.ofNat_toNat, BitVec.setWidth_eq, BitVec.sub_eq_add_neg]; rfl

/-- A pair other than AF written: that one, and nothing else. -/
theorem onlyPair_setPair_of_ne_af (s : State) {p : Pair} (w : Word) (h : p ≠ .af) :
    onlyPair s (setPair s p w) p w ∧ sameButRegs s (setPair s p w) := by
  have written := onlyPair_setPair s p w
  rwa [if_neg h] at written

/-- Settles O51: `ADD HL,rr` writes HL and the two flags that `ADD16` produces, `INC` and `DEC` their pair only. -/
theorem sixteenBitArithmetic : Obligations.SixteenBitArithmetic := by
  refine ⟨fun s f row => ?add, fun s => ⟨fun f row => ?inc, fun f row => ?dec⟩⟩
  case add =>
    obtain ⟨decodes, answer⟩ := runs_addHLForms f row
    obtain ⟨sum, produced, rest⟩ := pairAndFlags_written s (add16 s.hl (s.regs.get16 f.arg)).1
      (add16 s.hl (s.regs.get16 f.arg)).2 (p := .hl) (by decide)
    exact ⟨decodes, _, answer s, (congrArg _ sum).trans (BitVec.toNat_add _ _), produced, rfl, rest⟩
  case inc =>
    obtain ⟨decodes, answer⟩ := runs_incPairForms f row
    rw [← word_inc]
    exact ⟨decodes, _, answer s, onlyPair_setPair_of_ne_af s _ (incPair_ne_af f row)⟩
  case dec =>
    obtain ⟨decodes, answer⟩ := runs_decPairForms f row
    rw [← word_dec]
    exact ⟨decodes, _, answer s, onlyPair_setPair_of_ne_af s _ (decPair_ne_af f row)⟩

theorem addSpForms_pair (e : Byte) : ∀ f ∈ addSpForms e, f.arg = .hl ∨ f.arg = .sp := by simp [addSpForms]

/-- Settles O52: `ADDSP` is an addition of the displacement to SP, written to HL or to SP. -/
theorem displacementAddition : Obligations.DisplacementAddition := by
  intro s e f row
  obtain ⟨decodes, answer⟩ := runs_addSpForms e f row
  have pair := addSpForms_pair e f row
  obtain ⟨sum, produced, low, same⟩ := pairAndFlags_written s (addSp s.regs.sp e).1 (addSp s.regs.sp e).2 (p := f.arg)
    (by rcases pair with h | h <;> rw [h] <;> decide)
  refine ⟨decodes, _, answer s, ?_, produced, ?_, low, same⟩
  · rw [sum]; exact add_signExtend8 s.regs.sp e
  · rcases pair with h | h <;> rw [h] <;> rfl

end Sys2Proof.Machine
end

section
/-! Rotates, shifts and the bit test (45_rotate_shift_bit.md R320 to R333) by the arithmetic of 40_alu_helpers.md R240 to R248. -/

namespace Sys2Proof.Machine

/-- R320 to R323: an accumulator rotate leaves what its function computes, with Z cleared. -/
theorem writesA_opRotA {fn : Byte → Bool → Byte × FlagOut} {s : State} {m : Nat} {c : Bool}
    (value : fn s.regs.a (cFlag s.regs.f) = shiftOut (BitVec.ofNat 8 m) c) :
    WritesA s (BitVec.ofNat 8 m) (false, false, false, c) (opRotA fn s) := by
  unfold opRotA
  rw [value]
  exact writesA_setFlags s _ _

/-- Settles O53: the four rotates of A, each by its value. -/
theorem accumulatorRotates : Obligations.AccumulatorRotates := by
  intro s v cin run
  have rotate {op : Byte} {i : Instr} (fn : Byte → Bool → Byte × FlagOut) {m : Nat} {c : Bool}
      (decodes : decodeBytes [op] = .ok (i, [])) (answer : exec i s = opRotA fn s)
      (value : fn s.regs.a (cFlag s.regs.f) = shiftOut (BitVec.ofNat 8 m) c) (byte : m < 256) : run op i m c := by
    obtain ⟨t, next, a, rest⟩ := writesA_opRotA value
    exact ⟨decodes, t, answer.trans next, by rw [a, BitVec.toNat_ofNat, Nat.mod_eq_of_lt byte], rest⟩
  have byte : v < 256 := s.regs.a.isLt
  have bit : cin < 2 := Bool.toNat_lt _
  obtain ⟨rlc, rrc, rl, rr, -⟩ := shift8_values s.regs.a (cFlag s.regs.f)
  exact ⟨rotate (fun v _ => rlc8 v) rfl rfl rlc (by omega), rotate (fun v _ => rrc8 v) rfl rfl rrc (by omega),
    rotate rl8 rfl rfl rl (by omega), rotate rr8 rfl rfl rr (by omega)⟩

/-- R325 to R332: a rotate or shift rewrites its operand with what its function computes, and tells Z from it. -/
theorem rewrites_of_opShift {i : Instr} {fn : Byte → Bool → Byte × FlagOut} {s : State} {tg : Target} {m : Nat} {c : Bool}
    (answer : exec i s = opShift fn tg s)
    (value : fn (targetValue s tg) (cFlag s.regs.f) = shiftOut (BitVec.ofNat 8 m) c) (byte : m < 256) :
    rewrites i s tg (BitVec.ofNat 8 m) (decide (m = 0), false, false, c) := by
  have zero : (BitVec.ofNat 8 m == 0) = decide (m = 0) := by rw [ofNat_beq_zero, Nat.mod_eq_of_lt byte]
  rw [← zero]
  refine rewrites_of_next (o := (shiftOut (BitVec.ofNat 8 m) c).2) (answer.trans ?_)
  simp only [opShift, readTarget_fst, readTarget_regs, value]
  rfl

/-- Settles O54: each of the eight tables runs one rotate or shift, with its value. -/
theorem rotatesAndShifts : Obligations.RotatesAndShifts := by
  have rows {s : State} {fn : Byte → Bool → Byte × FlagOut} {table : List (Form Target)} (runs : Runs (opShift fn) table)
      (m : Nat → Nat) (c : Nat → Bool) (byte : ∀ v < 256, m v < 256)
      (value : ∀ v : Byte, fn v (cFlag s.regs.f) = shiftOut (BitVec.ofNat 8 (m v.toNat)) (c v.toNat)) :
      ∀ f ∈ table, f.decodes ∧ rewrites f.instr s f.arg (BitVec.ofNat 8 (m (targetValue s f.arg).toNat))
        (decide (m (targetValue s f.arg).toNat = 0), false, false, c (targetValue s f.arg).toNat) := by
    intro f row
    obtain ⟨decodes, answer⟩ := runs f row
    exact ⟨decodes, rewrites_of_opShift (answer s) (value _) (byte _ (targetValue s f.arg).isLt)⟩
  refine ⟨fun s => ?rotates, fun s => ?shifts⟩
  all_goals
    have bit : (cFlag s.regs.f).toNat < 2 := Bool.toNat_lt _
    choose rlc rrc rl rr sla sra swap srl using fun v => shift8_values v (cFlag s.regs.f)
  case rotates =>
    exact ⟨rows runs_rlcForms (fun v => 2 * v % 256 + v / 128) (fun v => decide (128 ≤ v)) (by omega) rlc,
      rows runs_rrcForms (fun v => v / 2 + v % 2 * 128) (fun v => decide (v % 2 = 1)) (by omega) rrc,
      rows runs_rlForms (fun v => 2 * v % 256 + (cFlag s.regs.f).toNat) (fun v => decide (128 ≤ v)) (by omega) rl,
      rows runs_rrForms (fun v => v / 2 + (cFlag s.regs.f).toNat * 128) (fun v => decide (v % 2 = 1)) (by omega) rr⟩
  case shifts =>
    exact ⟨rows runs_slaForms (fun v => 2 * v % 256) (fun v => decide (128 ≤ v)) (by omega) sla,
      rows runs_sraForms (fun v => v / 2 + v / 128 * 128) (fun v => decide (v % 2 = 1)) (by omega) sra,
      rows runs_swapForms (fun v => v % 16 * 16 + v / 16) (fun _ => false) (by omega) swap,
      rows runs_srlForms (fun v => v / 2) (fun v => decide (v % 2 = 1)) (by omega) srl⟩

/-- R248: bit `b` of a byte. -/
theorem bitOf_eq_decide (v : Byte) (b : Nat) : bitOf v b = decide (v.toNat / 2 ^ b % 2 = 1) := Nat.testBit_eq_decide_div_mod_eq

theorem not_bitOf (v : Byte) (b : Nat) : (!bitOf v b) = decide (v.toNat / 2 ^ b % 2 = 0) := by
  rw [bitOf_eq_decide, ← decide_not, decide_eq_decide]; omega

theorem bitForms_bit : ∀ f ∈ bitForms, f.arg.1 < 8 := by decide

/-- The flags written to the state after the operand was read (R324): those, and nothing else. -/
theorem flags_written (s : State) (tg : Target) (o : FlagOut) :
    let t := setFlags (readTarget s tg).2 o
    flagsOf t.regs.f = o.over s.regs.f ∧ lowNibbleSame s t ∧ t.regs = { s.regs with f := t.regs.f } ∧ cellsSame s t ∧
      sameButRegs (readTarget s tg).2 t := by
  intro t
  have regs : t.regs = { s.regs with f := writeFlags s.regs.f o } := by simp only [t, setFlags, readTarget_regs]
  have cells : cellsSame s t := by
    cases tg with
    | reg r => exact fun _ _ => rfl
    | memHL => exact readCell_busRead s s.hl
  obtain ⟨produced, low⟩ := producedFlags (o := o) (congrArg Regs.f regs)
  exact ⟨produced, low, by rw [regs], cells, rfl, fun _ _ => rfl⟩

/-- Settles O55: `BIT` reads its operand and writes flags. -/
theorem bitTest_readsOnly : Obligations.BitTest := by
  intro s f row
  obtain ⟨decodes, answer⟩ := runs_bitForms f row
  obtain ⟨produced, low, regs, cells, same⟩ := flags_written s f.arg.2 (bitTest f.arg.1 (readTarget s f.arg.2).1)
  refine ⟨decodes, bitForms_bit f row, _, answer s, ?_, low, regs, cells, ?_⟩
  · rw [produced, readTarget_fst, ← not_bitOf]; rfl
  · cases h : f.arg.2 <;> rw [h] at same <;> exact same

end Sys2Proof.Machine
end

section
/-! 8-bit loads and stores (41_load8.md R260 to R278) and `LD (nn),SP` (42_load16_stack.md R281): the shared operation that each form
table runs, what the operations that move HL answer, and the three statements. -/

namespace Sys2Proof.Machine

/-! The tables. -/

/-- R205: the bytes of an instruction decode to it, with nothing left over. -/
theorem decodeBytes_encode (i : Instr) : decodeBytes (encode i) = .ok (i, []) := by
  obtain ⟨op, tail, code, len⟩ := encode_shape i
  have whole := decodeBytes_append len []
  rwa [List.append_nil, ← code, decodeCode_encode] at whole

/-- A table runs `op` if the bytes of its rows are the encodings of their instructions. A word operand is then never joined from its
two bytes (R206), which `runs_of_columns` would have to compute. -/
theorem runs_of_encoded {α : Type} {op : α → State → Result} {table : List (Form α)}
    (columns : table.map (fun f => (f.bytes, exec f.instr)) = table.map fun f => (encode f.instr, op f.arg)) :
    Runs op table := by
  intro f row
  obtain ⟨bytes, runs⟩ := Prod.mk.inj (List.map_inj_left.1 columns f row)
  exact ⟨(congrArg decodeBytes bytes).trans (decodeBytes_encode f.instr), congrFun runs⟩

/-- R262, R265, R266, R269, R271, R273: the byte read at the address `p.2` of the old state goes to the register `p.1`. -/
def opLoadAt (p : Reg8 × (State → Word)) (s : State) : Result :=
  .next (setReg8 (busRead s (p.2 s)).2 p.1 (busRead s (p.2 s)).1)

/-- R263, R264, R267, R268, R270, R272, R274: the byte `p.2` is written at the address `p.1`. -/
def opStoreAt (p : (State → Word) × (State → Byte)) (s : State) : Result := .next (busWrite s (p.1 s) (p.2 s))

theorem runs_ldRegForms : Runs (fun p => opLoadReg p.1 p.2) ldRegForms := runs_of_columns rfl
theorem runs_ldImmForms (n : Byte) : Runs (fun r => opLoadImm r n) (ldImmForms n) := runs_of_columns rfl
theorem runs_loadForms (n : Byte) (nn : Word) : Runs opLoadAt (loadForms n nn) := runs_of_encoded rfl
theorem runs_loadStepForms : Runs opLoadStep loadStepForms := runs_of_columns rfl
theorem runs_storeForms (n : Byte) (nn : Word) : Runs opStoreAt (storeForms n nn) := runs_of_encoded rfl
theorem runs_storeStepForms : Runs opStoreStep storeStepForms := runs_of_columns rfl

/-! Moving HL. -/

@[simp] theorem hl_busRead (s : State) (a : Word) : (busRead s a).2.hl = s.hl := congrArg (·.get16 .hl) (busRead_regs s a)
@[simp] theorem hl_busWrite (s : State) (a : Word) (v : Byte) : (busWrite s a v).hl = s.hl :=
  congrArg (·.get16 .hl) (busWrite_regs s a v)
@[simp] theorem hl_setPair (s : State) (w : Word) : (setPair s .hl w).hl = w := get16_set16 s.regs .hl w (by decide)

/-- A write of A leaves HL. -/
@[simp] theorem hl_setReg8_a (s : State) (v : Byte) : (setReg8 s .a v).hl = s.hl := rfl

/-- R276, R278: the byte goes to A, and HL moves from where it was. -/
theorem opLoadStep_eq (step : Word) (s : State) :
    opLoadStep step s = .next (setPair (setReg8 (busRead s s.hl).2 .a (busRead s s.hl).1) .hl (s.hl + step)) := by
  simp only [opLoadStep, hl_setReg8_a, hl_busRead]

/-- R275, R277: A is written, and HL moves from where it was. -/
theorem opStoreStep_eq (step : Word) (s : State) :
    opStoreStep step s = .next (setPair (busWrite s s.hl s.regs.a) .hl (s.hl + step)) := by
  simp only [opStoreStep, hl_busWrite]

/-- R62: a write changes no register, so its frame holds of the state whose registers are put back. -/
theorem writeFrame_regsRestored (s : State) (a : Word) (v : Byte) : writeFrame s a v { busWrite s a v with regs := s.regs } := by
  have same : { busWrite s a v with regs := s.regs } = busWrite s a v := by rw [← busWrite_regs s a v]
  rw [same]
  exact writeFrame_busWrite s a v

/-! The statements. -/

/-- Settles O39: each form writes one register, with the source or the immediate. -/
theorem loadRegister : Obligations.LoadRegister := by
  refine ⟨fun s f row => ?register, fun s n f row => ?immediate⟩
  case register =>
    obtain ⟨decodes, answer⟩ := runs_ldRegForms f row
    exact ⟨decodes, _, answer s, onlyReg8_setReg8 s _ _ rfl, sameButRegs_setReg8 s _ _⟩
  case immediate =>
    obtain ⟨decodes, answer⟩ := runs_ldImmForms n f row
    exact ⟨decodes, _, answer s, onlyReg8_setReg8 s _ _ rfl, sameButRegs_setReg8 s _ _⟩

/-- Settles O40: the read leaves every register and every byte of memory; then the register is written, and HL where it moves. -/
theorem loadFromMemory : Obligations.LoadFromMemory := by
  refine ⟨fun s n nn f row => ?load, fun s f row => ?step⟩
  case load =>
    obtain ⟨decodes, answer⟩ := runs_loadForms n nn f row
    exact ⟨decodes, _, answer s, onlyReg8_setReg8 s _ _ (busRead_regs s _), sameButRegs_setReg8 _ _ _, readCell_busRead s _⟩
  case step =>
    obtain ⟨decodes, answer⟩ := runs_loadStepForms f row
    refine ⟨decodes, _, (answer s).trans (opLoadStep_eq f.arg s), rfl, hl_setPair _ _, ?_, ⟨rfl, fun _ _ => rfl⟩,
      readCell_busRead s s.hl⟩
    rw [setPair_regs, setReg8_regs, busRead_regs]
    rfl

/-- Settles O41: each store is one bus write, two for `LD (nn),SP`, with the frame of a bus write. -/
theorem storeToMemory : Obligations.StoreToMemory := by
  refine ⟨fun s n nn f row => ?store, fun s f row => ?step, fun s nn => ?stackPointer⟩
  case store =>
    obtain ⟨decodes, answer⟩ := runs_storeForms n nn f row
    exact ⟨decodes, _, answer s, rfl, busWrite_regs s _ _, writeFrame_busWrite s _ _⟩
  case step =>
    obtain ⟨decodes, answer⟩ := runs_storeStepForms f row
    refine ⟨decodes, _, (answer s).trans (opStoreStep_eq f.arg s), rfl, hl_setPair _ _, ?_, writeFrame_regsRestored s _ _⟩
    rw [setPair_regs, busWrite_regs]
    rfl
  case stackPointer =>
    refine ⟨decodeBytes_encode (.ldMemNnSP nn), _, rfl, rfl, ?_, writeFrame_busWrite s _ _, writeFrame_busWrite _ _ _⟩
    exact (busWrite_regs _ _ _).trans (busWrite_regs s _ _)

end Sys2Proof.Machine
end

section
/-! The 16-bit loads and the stack instructions (42_load16_stack.md R280, R282, R284 to R288): `LD rr,nn` and `LD SP,HL` write a
pair, `PUSH` is two bus writes, `POP` two bus reads and a pair written. -/

namespace Sys2Proof.Machine

theorem runs_ldPairForms (nn : Word) : Runs (fun p => opLoadPair p nn) (ldPairForms nn) := runs_of_encoded rfl
theorem runs_pushForms : Runs opPush pushForms := runs_of_columns rfl
theorem runs_popForms : Runs opPop popForms := runs_of_columns rfl

/-- R280: no row of the table loads AF, whose write would be masked. -/
theorem ldPairForms_ne_af (nn : Word) : ∀ f ∈ ldPairForms nn, f.arg ≠ .af := by simp [ldPairForms]

/-- R286, R287: the state from which a `POP` writes its pair: both bytes are read, and SP is two higher. -/
def stackRead (s : State) : State :=
  { (busRead (busRead s s.regs.sp).2 (s.regs.sp + 1)).2 with regs := { s.regs with sp := s.regs.sp + 2 } }

/-- R286, R287: a `POP` writes the word of the two bytes to its pair, after both reads. -/
theorem opPop_eq (p : Pair) (s : State) :
    opPop p s = .next (setPair (stackRead s) p
      (joinBytes (busRead (busRead s s.regs.sp).2 (s.regs.sp + 1)).1 (busRead s s.regs.sp).1)) := by
  rw [opPop, pop16_flat]
  rfl

/-- R78: the two reads change no byte of memory. -/
theorem cellsSame_stackRead (s : State) : cellsSame s (stackRead s) := fun r k =>
  (readCell_busRead (busRead s s.regs.sp).2 (s.regs.sp + 1) r k).trans (readCell_busRead s s.regs.sp r k)

/-- Settles O43: a push is two bus writes, each with its frame; a pop writes its pair, masked for AF, to the state after the two
reads. -/
theorem pushAndPop : Obligations.PushAndPop := by
  refine ⟨fun s f row => ?push, fun s f row => ?pop⟩
  case push =>
    obtain ⟨decodes, answer⟩ := runs_pushForms f row
    refine ⟨decodes, ?_, writeFrame_busWrite s _ _, writeFrame_busWrite _ _ _⟩
    rw [answer, opPush, push16_flat]
  case pop =>
    obtain ⟨decodes, answer⟩ := runs_popForms f row
    obtain ⟨written, same⟩ := onlyPair_setPair (stackRead s) f.arg
      (joinBytes (busRead (busRead s s.regs.sp).2 (s.regs.sp + 1)).1 (busRead s s.regs.sp).1)
    exact ⟨decodes, _, (answer s).trans (opPop_eq f.arg s), written, same, cellsSame_stackRead s⟩

/-- Settles O42: each form writes one pair other than AF, so the word is not masked. -/
theorem loadPair : Obligations.LoadPair := by
  refine ⟨fun s nn f row => ?immediate, fun s => ?stackPointer⟩
  case immediate =>
    obtain ⟨decodes, answer⟩ := runs_ldPairForms nn f row
    exact ⟨decodes, _, answer s, onlyPair_setPair_of_ne_af s nn (ldPairForms_ne_af nn f row)⟩
  case stackPointer =>
    exact ⟨decodeBytes_encode .ldSPHL, _, rfl, onlyPair_setPair_of_ne_af s s.hl (by decide)⟩

end Sys2Proof.Machine
end

section
/-! `RES` and `SET` (45_rotate_shift_bit.md R334, R335): one bit of the operand, written back in every case; F is not written. -/

namespace Sys2Proof.Machine

theorem runs_resForms : Runs (fun p => opRes p.1 p.2) resForms := runs_of_columns rfl
theorem runs_setForms : Runs (fun p => opSet p.1 p.2) setForms := runs_of_columns rfl

theorem resForms_bit : ∀ f ∈ resForms, f.arg.1 < 8 := by decide
theorem setForms_bit : ∀ f ∈ setForms, f.arg.1 < 8 := by decide

/-- R250: a write of the flags in which none is produced leaves the state. -/
theorem setFlags_none (s : State) : setFlags s ⟨none, none, none, none⟩ = s := rfl

/-- R324: an instruction that reads its operand and writes the result `r` back, without the flags, rewrites the operand and keeps
the flags. -/
theorem rewrites_of_next_keepsFlags {i : Instr} {s : State} {tg : Target} {r : Byte}
    (answer : exec i s = .next (writeTarget (readTarget s tg).2 tg r)) : rewrites i s tg r (flagsOf s.regs.f) :=
  rewrites_of_next (o := ⟨none, none, none, none⟩) (by rw [setFlags_none, answer])

theorem opRes_eq (b : Nat) (tg : Target) (s : State) :
    opRes b tg s = .next (writeTarget (readTarget s tg).2 tg (putBit (targetValue s tg) b false)) := by
  simp only [opRes, resetBit, readTarget_fst]

theorem opSet_eq (b : Nat) (tg : Target) (s : State) :
    opSet b tg s = .next (writeTarget (readTarget s tg).2 tg (putBit (targetValue s tg) b true)) := by
  simp only [opSet, setBit, readTarget_fst]

/-- Settles O56: each table writes its operand back with the bit put to 0, or to 1. -/
theorem resetAndSetBit : Obligations.ResetAndSetBit := by
  intro s run
  have rows {op : Nat → Target → State → Result} {b : Bool} {table : List (Form (Nat × Target))}
      (runs : Runs (fun p => op p.1 p.2) table) (small : ∀ f ∈ table, f.arg.1 < 8)
      (writesBack : ∀ n tg, op n tg s = .next (writeTarget (readTarget s tg).2 tg (putBit (targetValue s tg) n b))) :
      ∀ f ∈ table, run f b := by
    intro f row
    obtain ⟨decodes, answer⟩ := runs f row
    exact ⟨decodes, small f row, putBit (targetValue s f.arg.2) f.arg.1 b, fun k => bitOf_putBit _ _ k _,
      rewrites_of_next_keepsFlags ((answer s).trans (writesBack _ _))⟩
  exact ⟨rows runs_resForms resForms_bit (fun n tg => opRes_eq n tg s),
    rows runs_setForms setForms_bit (fun n tg => opSet_eq n tg s)⟩

end Sys2Proof.Machine
end

section
/-! Jumps, calls, restarts and returns (46_control.md R340 to R351): the form tables, the states that a call and a return make in terms
of bus accesses, and the return from an interrupt (60_exceptions.md R415, R417). -/

namespace Sys2Proof.Machine

/-! Conditions. -/

/-- R340: an instruction with a condition answers the state `taken` when the condition holds, and the unchanged state otherwise. -/
def opWhen (taken : State → State) (cc : Cond) (s : State) : Result := .next (if condHolds s.regs.f cc then taken s else s)

theorem runs_jpIfForms (nn : Word) : Runs (opWhen (setPc · nn)) (jpIfForms nn) := runs_of_encoded rfl
theorem runs_jrIfForms (e : Byte) : Runs (opWhen (jumpRelative · e)) (jrIfForms e) := runs_of_columns rfl
theorem runs_callIfForms (nn : Word) : Runs (opWhen (call · nn)) (callIfForms nn) := runs_of_encoded rfl
theorem runs_retIfForms : Runs (opWhen popPc) retIfForms := runs_of_columns rfl
theorem runs_rstForms : Runs opRst rstForms := runs_of_columns rfl

theorem opWhen_of_condTrue {taken : State → State} {cc : Cond} {s : State} (h : condTrue s.regs.f cc) :
    opWhen taken cc s = .next (taken s) := by
  rw [opWhen, if_pos ((condTrue_iff _ _).1 h)]

theorem opWhen_of_not_condTrue {taken : State → State} {cc : Cond} {s : State} (h : ¬ condTrue s.regs.f cc) :
    opWhen taken cc s = .next s := by
  rw [opWhen, if_neg fun holds => h ((condTrue_iff _ _).2 holds)]

/-- R342, R345, R347, R349: the rows of a table of conditional instructions, with the condition as the spec states it. -/
theorem Runs.conditional {taken : State → State} {table : List (Form Cond)} (runs : Runs (opWhen taken) table) (s : State) :
    ∀ f ∈ table, f.decodes ∧ (condTrue s.regs.f f.arg → exec f.instr s = .next (taken s)) ∧
      (¬ condTrue s.regs.f f.arg → exec f.instr s = .next s) := by
  intro f row
  obtain ⟨decodes, answer⟩ := runs f row
  exact ⟨decodes, fun h => (answer s).trans (opWhen_of_condTrue h), fun h => (answer s).trans (opWhen_of_not_condTrue h)⟩

/-! Calls and returns, in terms of bus accesses. -/

/-- R346, R285: two bus writes at the old SP, the high byte of PC first, then SP and PC. -/
theorem call_flat (s : State) (target : Word) :
    call s target =
      { busWrite (busWrite s (s.regs.sp - 1) (hiByte s.regs.pc)) (s.regs.sp - 2) (loByte s.regs.pc) with
        regs := { s.regs with sp := s.regs.sp - 2, pc := target } } := by
  rw [call, push16_flat]
  rfl

/-- R348, R286: PC is the word of the two bytes read, low byte first, and SP two higher. -/
theorem popPc_flat (s : State) :
    popPc s =
      { stackRead s with
        regs := { s.regs with
          sp := s.regs.sp + 2,
          pc := joinBytes (busRead (busRead s s.regs.sp).2 (s.regs.sp + 1)).1 (busRead s s.regs.sp).1 } } := by
  rw [popPc, pop16_flat]
  rfl

/-- R350: `RETI` is `RET` with IME set. -/
theorem exec_reti (s : State) : exec .reti s = .next { popPc s with ime := true } := rfl

/-! The return from an interrupt. -/

/-- R415: what an entry writes after the push (IME, IF, PC) is no plain memory, so a plain byte reads as before. -/
theorem busRead_afterEntryWrites (u : State) (v : Byte) (w : Word) {a : Word} {p : Region × Nat}
    (hp : storageCell u a = some p) :
    busRead (setPc (writeIo { u with ime := false } 0x0F v) w) a =
      ((busRead u a).1, setPc (writeIo { u with ime := false } 0x0F v) w) := by
  have entered : storageCell (setPc (writeIo { u with ime := false } 0x0F v) w) a = some (p.1, p.2) := hp
  obtain ⟨-, -, -, -, high⟩ := storageCell_region hp
  have notIF : ¬ (p.1 = .io ∧ p.2 = 0x0F) := fun g => by have := high g.1; omega
  have kept : readCell (setPc (writeIo { u with ime := false } 0x0F v) w) p.1 p.2 = readCell u p.1 p.2 :=
    (readCell_writeCell { u with ime := false } .io p.1 0x0F p.2 v).trans (if_neg notIF)
  rw [busRead_storageCell entered, busRead_storageCell hp, kept]

section
variable {s : State} {c d : Region × Nat} (hc : storageCell s (s.regs.sp - 1) = some c)
  (hd : storageCell s (s.regs.sp - 2) = some d)
include hc hd

/-- R285: a push into plain memory moves no address to another place. -/
theorem storageCell_push16 (w a : Word) : storageCell (push16 s w) a = storageCell s a := by
  have low : storageCell (writeCell s c.1 c.2 (hiByte w)) (s.regs.sp - 2) = some (d.1, d.2) := hd
  rw [push16_flat, busWrite_storageCell hc, busWrite_storageCell low]
  rfl

/-- R415: a plain byte reads after an entry as it does after the push of PC. -/
theorem busRead_interruptEntry (i : Nat) {a : Word} {p : Region × Nat} (hp : storageCell s a = some p) :
    busRead (interruptEntry s i) a = ((busRead (push16 s s.regs.pc) a).1, interruptEntry s i) :=
  busRead_afterEntryWrites _ _ _ ((storageCell_push16 hc hd _ a).trans hp)

/-- R415, R417: what is popped after an entry is the interrupted PC. -/
theorem pop16_interruptEntry (i : Nat) : (pop16 (interruptEntry s i)).1 = s.regs.pc := by
  obtain ⟨readLow, readHigh⟩ := busRead_push16 s.regs.pc hc hd
  have sp : (interruptEntry s i).regs.sp = s.regs.sp - 2 := by rw [interruptEntry_regs]; exact word_sub_two _
  have next : s.regs.sp - 2 + 1 = s.regs.sp - 1 := by bv_omega
  rw [pop16_flat, sp, busRead_interruptEntry hc hd i hd, next, busRead_interruptEntry hc hd i hc, readLow, readHigh]
  exact joinBytes_hi_lo s.regs.pc

end

/-! The statements. -/

/-- Settles O15: the pop after the entry gives the interrupted PC and brings SP back up by two. -/
theorem returnFromInterrupt : Obligations.ReturnFromInterrupt := by
  intro s i c d hc hd
  have regs : (popPc (interruptEntry s i)).regs = s.regs := by
    have back : s.regs.sp - 1 - 1 + 1 + 1 = s.regs.sp := by bv_omega
    rw [popPc, setPc_regs, pop16_interruptEntry hc hd i, pop16_regs, interruptEntry_regs, back]
  have eiDelay : (popPc (interruptEntry s i)).eiDelay = s.eiDelay := by
    rw [popPc, setPc_eiDelay, pop16_eiDelay, interruptEntry_eiDelay]
  rw [exec_reti]
  generalize popPc (interruptEntry s i) = t at regs eiDelay ⊢
  exact ⟨_, rfl, regs, rfl, eiDelay⟩

/-- Settles O58: each form is a call of its target, and a call is two bus writes, each with its frame. -/
theorem callsAndRestarts : Obligations.CallsAndRestarts := by
  intro s nn u m called
  have flat : ∀ target, call s target = called target := call_flat s
  refine ⟨⟨decodeBytes_encode (.callNn nn), congrArg Host.Outcome.next (flat nn)⟩, ?conditional, fun f row => ?restart,
    writeFrame_busWrite s _ _, writeFrame_busWrite u _ _⟩
  case conditional =>
    rw [← flat nn]
    exact (runs_callIfForms nn).conditional s
  case restart =>
    obtain ⟨decodes, answer⟩ := runs_rstForms f row
    exact ⟨decodes, (answer s).trans (congrArg Host.Outcome.next (flat f.arg))⟩

/-- Settles O59: each form pops PC, `RETI` with IME set, and the two reads change no byte of memory. -/
theorem returns : Obligations.Returns := by
  intro s lo hi back
  have flat : popPc s = back := popPc_flat s
  refine ⟨⟨rfl, congrArg Host.Outcome.next flat⟩, ?conditional, ⟨rfl, ?interrupt⟩, cellsSame_stackRead s⟩
  case conditional =>
    rw [← flat]
    exact runs_retIfForms.conditional s
  case interrupt => rw [exec_reti, flat]

/-- Settles O57: each form sets PC only; the displacement is added as a signed number. -/
theorem jumps : Obligations.Jumps := by
  refine ⟨fun s nn => ⟨⟨decodeBytes_encode (.jpNn nn), rfl⟩, ⟨rfl, rfl⟩, (runs_jpIfForms nn).conditional s⟩, ?relative⟩
  intro s e lands
  have landing : lands (jumpRelative s e) := ⟨add_signExtend8 s.regs.pc e, rfl⟩
  refine ⟨⟨rfl, _, rfl, landing⟩, fun f row => ?conditional⟩
  obtain ⟨decodes, taken, untaken⟩ := (runs_jrIfForms e).conditional s f row
  exact ⟨decodes, fun h => ⟨_, taken h, landing⟩, untaken⟩

end Sys2Proof.Machine
end

section
/-! The invariant of every run (70_reset_and_hazards.md R472): each part of a step keeps it, and so does the step. -/

namespace Sys2Proof.Machine

/-- What an instruction without control effect keeps, the fetch among it, is enough for the invariant. -/
theorem Calm.inv {s t : State} (h : Calm s t) (inv : s.Inv) : t.Inv :=
  (h.memInv inv.memInv).inv (h.fLow inv.flags) (h.eiDelay.trans_le inv.slot)

/-- Every instruction keeps the invariant. -/
theorem Effect.inv {i : Instr} {s t : State} (h : Effect i s t) (inv : s.Inv) : t.Inv :=
  (h.memInv inv.memInv).inv (h.fLow inv.flags) (h.slot inv.slot)

theorem State.Inv.countAndTick {s : State} (h : s.Inv) : (countAndTick s).Inv :=
  h.memInv.countAndTick.inv (by rw [countAndTick_regs]; exact h.flags) (by rw [countAndTick_eiDelay]; exact h.slot)

theorem State.Inv.post {s : State} (h : s.Inv) : (post s).Inv :=
  h.memInv.post.inv (by rw [post_f]; exact h.flags) (by rw [post_eiDelay]; exact (Nat.sub_le _ _).trans h.slot)

/-- The invariant does not speak of the mode. -/
theorem State.Inv.withMode {s : State} (h : s.Inv) (m : Mode) : State.Inv { s with mode := m } :=
  State.MemInv.inv (h.memInv.of_eq rfl rfl rfl rfl rfl rfl rfl rfl) h.flags h.slot

/-- R410: what follows the instruction keeps the invariant, after a `HALT` and after any other. -/
theorem State.Inv.complete {s : State} (h : s.Inv) : (complete s).Inv := by
  cases mode : s.mode with
  | halted => rwa [complete_halted mode]
  | running => rw [complete_running mode]; exact h.post

/-- R411: both iterations of a halted machine, the wait and the wake, keep the invariant. -/
theorem State.Inv.haltedIteration {s : State} (h : s.Inv) : (haltedIteration s).Inv := by
  unfold Machine.haltedIteration
  split
  case isTrue => exact h.countAndTick
  case isFalse => exact (h.withMode .running).post

/-- Settles O6: a running machine keeps the invariant in the fetch, in the instruction and in what completes it; a halted one in its
iteration. -/
theorem stepKeepsInvariant : Obligations.StepKeepsInvariant := by
  intro s t inv h
  cases mode : s.mode with
  | running =>
    obtain ⟨u, -, effect, next⟩ := step_running mode
    obtain rfl : complete u = t := Host.Outcome.next.inj (next.symm.trans h)
    exact (effect.inv ((calm_fetch s).inv inv)).complete
  | halted =>
    obtain rfl : haltedIteration s = t := Host.Outcome.next.inj ((step_halted mode).symm.trans h)
    exact inv.haltedIteration

/-- Settles O5: both kinds of iteration answer a next state. -/
theorem stepAlwaysGoesOn : Obligations.StepAlwaysGoesOn := by
  intro s
  cases mode : s.mode with
  | running =>
    obtain ⟨u, -, -, next⟩ := step_running mode
    exact ⟨_, next⟩
  | halted => exact ⟨_, step_halted mode⟩

end Sys2Proof.Machine
end

section
/-! The machine after a reset (70_reset_and_hazards.md R470): the I/O file that power-on and a later reset by the host both leave, and
the invariant in both (R472). -/

namespace Sys2Proof.Machine

/-- R470: what every reset leaves: the state after power-on, but for the fields that a later reset does not start again (log 26). -/
def justReset (cart : Cart) (rom cram : Memory) (keys : Byte) (s : State) : Prop :=
  s = { State.powerOn cart rom cram keys with
    rtcAnchor := s.rtcAnchor, wallDraws := s.wallDraws, resets := s.resets, out := s.out }

theorem justReset_powerOn (cart : Cart) (rom cram : Memory) (keys : Byte) :
    justReset cart rom cram keys (State.powerOn cart rom cram keys) := rfl

theorem justReset_hostReset (s : State) : justReset s.cart s.mem.rom s.mem.cram s.joypad (hostReset s) := rfl

section
variable {cart : Cart} {rom cram : Memory} {keys : Byte} {s : State} (h : justReset cart rom cram keys s)
include h

/-- R131, R470: every I/O cell after a reset. -/
theorem readIo_justReset (o : Nat) :
    readIo s o =
      if o = 0x40 then 0x91 else if o = 0x47 then 0xFC else if o = 0x48 then 0xFF else if o = 0x49 then 0xFF
      else if o = 0x55 ∧ cart.cgb = true then 0xFF else 0x00 := by
  have cell : readIo s o = (Memory.lookup (Mem.ioReset cart.cgb) o).getD (Region.unlisted s.resets .io o) := by
    rw [show s = _ from h]; rfl
  have unlisted : Region.unlisted s.resets .io o = (Region.fixed .io o).getD 0x00 := rfl
  rw [cell, unlisted, Region.fixed]
  by_cases hdma5 : o = 0x55
  · subst hdma5; cases cart.cgb <;> rfl
  · have listed : Memory.lookup (Mem.ioReset cart.cgb) o = none := by cases cart.cgb <;> simp [Mem.ioReset, Memory.lookup, hdma5]
    simp only [listed, hdma5, false_and, if_false, Option.getD_none]
    split_ifs <;> rfl

/-- R36, R172, R470: bank 1 with the RAM closed is legal for every mapper. -/
theorem banksLegal_justReset : s.banksLegal := by
  have banks : s.mbc = { currentBank := 1, ramBank := 0, ramEnabled := false, ramMode := false } := congrArg State.mbc h
  unfold State.banksLegal
  rw [banks]
  cases s.cart.mapper with
  | noMapper => rfl
  | mbc1 | mbc2 | mbc3 | mbc5 => decide

/-- R39, R40, R470: the CGB-only state after a reset is at its constant values. -/
theorem noCgbState_justReset : s.noCgbState :=
  ⟨congrArg State.doubleSpeed h, congrArg State.vramBank h, congrArg State.wramBank h, congrArg State.hdmaActive h⟩

/-- R122, R127, R470: it agrees with the I/O cells that set it, which hold 0. -/
theorem cgbCellsAgree_justReset : s.cgbCellsAgree := by
  obtain ⟨double, vramBank, wramBank, -⟩ := noCgbState_justReset h
  have vbk : readIo s 0x4F = 0x00 := readIo_justReset h 0x4F
  have svbk : readIo s 0x70 = 0x00 := readIo_justReset h 0x70
  have key1 : readIo s 0x4D = 0x00 := readIo_justReset h 0x4D
  unfold State.cgbCellsAgree
  rw [double, vramBank, wramBank, vbk, svbk, key1]
  decide

/-- R470, R472: the machine after a reset meets the invariant if its ROM and its battery RAM do. -/
theorem inv_justReset (romForm : Memory.wf .rom rom = true) (cramForm : Memory.wf .cram cram = true)
    (romSize : ∀ c ∈ rom, c.1 < Region.size cart .rom) (cramSize : ∀ c ∈ cram, c.1 < Region.size cart .cram) : s.Inv := by
  have cartridge : s.cart = cart := congrArg State.cart h
  have memory : s.mem = (State.powerOn cart rom cram keys).mem := (congrArg State.mem h :)
  have flags : s.regs.f = 0xB0 := congrArg (·.regs.f) h
  have slot : s.eiDelay = 0 := congrArg State.eiDelay h
  have line : readIo s 0x44 = 0x00 := readIo_justReset h 0x44
  have joypad : readIo s 0x00 = 0x00 := readIo_justReset h 0x00
  refine ⟨by rw [flags]; decide, by omega, by rw [line]; decide, banksLegal_justReset h, by rw [joypad]; decide,
    fun _ => noCgbState_justReset h, fun _ => cgbCellsAgree_justReset h, (wf_iff _).2 fun r => ?canonical, fun r => ?bounded⟩
  case canonical =>
    rw [memory]
    cases r with
    | rom => exact romForm
    | cram => exact cramForm
    | io => show Memory.wf .io (Mem.ioReset cart.cgb) = true; cases cart.cgb <;> decide
    | vram | wram | oam | bgPal | objPal => rfl
  case bounded =>
    rw [memory, cartridge]
    cases r with
    | rom => exact romSize
    | cram => exact cramSize
    | io => show ∀ c ∈ Mem.ioReset cart.cgb, c.1 < 256; cases cart.cgb <;> decide
    | vram | wram | oam | bgPal | objPal => exact fun c listed => absurd listed List.not_mem_nil

end

/-- Settles O7: the invariant holds after every reset; a later one finds the ROM and the battery RAM as the invariant has them. -/
theorem resetInvariant : Obligations.ResetInvariant := by
  have powerOn := fun cart rom cram keys => inv_justReset (justReset_powerOn cart rom cram keys)
  refine ⟨powerOn Cart.blank [] [] 0x00 rfl rfl ?_ ?_, powerOn, fun s inv => ?_⟩
  · exact fun c listed => absurd listed List.not_mem_nil
  · exact fun c listed => absurd listed List.not_mem_nil
  · have form := (wf_iff _).1 inv.canonical
    exact inv_justReset (justReset_hostReset s) (form .rom) (form .cram) (inv.bounded .rom) (inv.bounded .cram)

/-- Settles O8: the I/O cells are those of every reset; the registers and the control state are fields that power-on writes out. -/
theorem resetState : Obligations.ResetState := by
  refine ⟨fun cart rom cram keys => ⟨rfl, fun o _ => readIo_justReset (justReset_powerOn cart rom cram keys) o⟩, ?_⟩
  intro control
  have powerOn : ∀ cart rom cram keys, control (State.powerOn cart rom cram keys) :=
    fun _ _ _ _ => ⟨rfl, rfl, rfl, rfl, rfl, rfl, rfl, rfl, rfl, rfl, rfl, rfl, rfl⟩
  refine ⟨fun cart rom cram keys => ⟨powerOn cart rom cram keys, rfl, rfl, rfl⟩, fun s => ?_⟩
  exact ⟨powerOn s.cart s.mem.rom s.mem.cram s.joypad, rfl, rfl, fun o _ => readIo_justReset (justReset_hostReset s) o,
    fun k => ⟨rfl, rfl⟩⟩

end Sys2Proof.Machine
end

section
/-! System instructions and interrupts (47_system.md R360 to R366; 60_exceptions.md R410 to R416): what each system instruction
writes, the entry of an interrupt in terms of bus accesses, the post-instruction step, and the slot of `EI`. -/

namespace Sys2Proof.Machine

/-! System instructions. -/

theorem runs_illegalForms : Runs opIllegal illegalForms := runs_of_columns rfl

/-- R362: `STOP` is the speed switch, whatever its second byte. -/
theorem exec_stop (b : Byte) (s : State) : exec (.stop b) s = .next (speedSwitch s) := rfl

/-- R122, R362: an armed CGB toggles the speed and stores the new one in KEY1. -/
theorem storedAt_speedSwitch {s : State} (cgb : s.cart.cgb = true) (armed : bitOf (readIo s 0x4D) 0 = true) :
    (speedSwitch s).doubleSpeed = !s.doubleSpeed ∧
      storedAt { s with doubleSpeed := !s.doubleSpeed } .io 0x4D (if s.doubleSpeed then 0x00 else 0x80) (speedSwitch s) := by
  unfold speedSwitch
  rw [if_pos ⟨cgb, armed⟩]
  exact ⟨rfl, storedAt_writeCell { s with doubleSpeed := !s.doubleSpeed } .io 0x4D (if s.doubleSpeed then 0x00 else 0x80)⟩

/-- Settles O60: `NOP`, `HALT`, `DI` and `EI` write one field or two; `STOP` is the speed switch; the illegal bytes are a table. -/
theorem systemInstructions : Obligations.SystemInstructions := by
  refine ⟨fun s => ⟨⟨rfl, rfl⟩, ⟨rfl, rfl⟩, ⟨rfl, rfl⟩, ⟨rfl, rfl⟩⟩,
    fun s b => ⟨rfl, fun cgb armed => ?armed, fun idle => ?idle⟩, fun s f row => ?illegal⟩
  case armed => exact ⟨_, exec_stop b s, storedAt_speedSwitch cgb armed⟩
  case idle => rw [exec_stop, speedSwitch, if_neg idle]
  case illegal =>
    obtain ⟨decodes, answer⟩ := runs_illegalForms f row
    exact ⟨decodes, answer s⟩

/-! The entry of an interrupt. -/

/-- R285, R415: two bus writes at the old SP, the high byte of PC first, then the IF bit, IME, SP and PC. -/
theorem interruptEntry_flat (s : State) (i : Nat) :
    let m := busWrite (busWrite s (s.regs.sp - 1) (hiByte s.regs.pc)) (s.regs.sp - 2) (loByte s.regs.pc)
    interruptEntry s i =
      { writeIo m 0x0F (readIo m 0x0F &&& ~~~(1#8 <<< i)) with
        regs := { s.regs with sp := s.regs.sp - 2, pc := vector i }, ime := false } := by
  rw [interruptEntry, push16_flat]
  rfl

/-- R414, R416: with IME set, the least of the five sources that is pending and enabled is entered. -/
theorem interruptCheck_enters {s : State} {i : Nat} (ime : s.ime = true) (five : i < 5)
    (requested : bitOf (readIo s 0x0F &&& readIo s 0xFF) i = true)
    (least : ∀ j, j < i → bitOf (readIo s 0x0F &&& readIo s 0xFF) j = false) : interruptCheck s = interruptEntry s i := by
  have source : leastSource (pendingRequests s) = some i :=
    leastSource_eq_some.2 ⟨five, (bitOf_sources _ five).trans requested,
      fun j below => (bitOf_sources _ (below.trans five)).trans (least j below)⟩
  rw [interruptCheck, ime, source]

/-- R414: with IME clear nothing is entered. -/
theorem interruptCheck_masked {s : State} (ime : s.ime = false) : interruptCheck s = s := by
  rcases interruptCheck_cases s with unchanged | ⟨set, -⟩
  · exact unchanged
  · rw [ime] at set; cases set

/-- R414: with no source both pending and enabled nothing is entered. -/
theorem interruptCheck_idle {s : State} (idle : pendingRequests s = 0) : interruptCheck s = s := by
  rcases interruptCheck_cases s with unchanged | ⟨-, i, source, -⟩
  · exact unchanged
  · rw [idle] at source; cases source

/-- Settles O14: the entry is two bus writes, each with its frame. -/
theorem interruptCheck_entersLeastSource : Obligations.InterruptCheck := by
  refine ⟨fun s i ime five requested least => ?entered, fun s idle => idle.elim interruptCheck_masked interruptCheck_idle⟩
  rw [interruptCheck_enters ime five requested least]
  exact ⟨interruptEntry_flat s i, writeFrame_busWrite s _ _, writeFrame_busWrite _ _ _⟩

/-! The post-instruction step. -/

/-- R32, R410, R412: the slot, the count, the tick, then the check. -/
theorem post_flat (s : State) :
    post s = interruptCheck (timingTick
      { s with eiDelay := s.eiDelay - 1, ime := s.ime || decide (s.eiDelay = 1), clock := s.clock + 1 }) := by
  have slot : (if s.eiDelay = 1 then true else s.ime) = (s.ime || decide (s.eiDelay = 1)) := by
    by_cases last : s.eiDelay = 1 <;> simp [last]
  rw [post, countAndTick, eiSlot_cases, slot]

/-- Settles O13: the order is that of `post`, and its check and its tick keep the slot, the count and the mode. -/
theorem postOrder : Obligations.PostOrder := fun s => ⟨post_flat s, post_eiDelay s, post_clock s, post_mode s⟩

/-! The wait. -/

theorem haltedIteration_wait {s : State} (quiet : readIo s 0x0F = 0) : haltedIteration s = countAndTick s := if_pos quiet

theorem haltedIteration_wake {s : State} (request : readIo s 0x0F ≠ 0) :
    haltedIteration s = post { s with mode := .running } := if_neg request

/-- R411: the step of a halted machine whose IF byte is zero. -/
theorem step_wait {s : State} (halted : s.mode = .halted) (quiet : readIo s 0x0F = 0) : step s = .next (countAndTick s) :=
  (step_halted halted).trans (congrArg _ (haltedIteration_wait quiet))

/-- Settles O11: the wait is one count and one tick, and a tick keeps the registers and the control state. -/
theorem haltIteration : Obligations.HaltIteration := by
  refine fun s halted => ⟨fun quiet => ?wait, fun request => ?wake⟩
  case wait =>
    exact ⟨_, step_wait halted quiet, rfl, countAndTick_regs s, countAndTick_ime s, countAndTick_eiDelay s,
      (countAndTick_mode s).trans halted, countAndTick_clock s⟩
  case wake => exact (step_halted halted).trans (congrArg _ (haltedIteration_wake request))

/-! The latency of `EI`. -/

theorem fetchOperand_regs (s : State) (pc : Word) (i len : Nat) : (fetchOperand s pc i len).2.regs = s.regs := by
  unfold fetchOperand; split
  exacts [busRead_regs s _, rfl]

/-- R205: the fetch moves PC past the bytes of the instruction and writes no other register. -/
theorem fetch_regs (s : State) :
    (fetch s).2.regs = { s.regs with pc := s.regs.pc + BitVec.ofNat 16 (encode (fetch s).1).length } := by
  have length : (encode (fetch s).1).length = instrLength (busRead s s.regs.pc).1 := length_encode_decode _ _ _
  rw [length, fetch]
  simp only [setPc_regs, fetchOperand_regs, busRead_regs]

/-- R412: with IME clear and the slot not ending, a post-instruction step enters nothing. -/
theorem post_masked {s : State} (ime : s.ime = false) (goesOn : s.eiDelay ≠ 1) :
    (post s).ime = false ∧ (post s).regs = s.regs := by
  have masked : (s.ime || decide (s.eiDelay = 1)) = false := by rw [ime, decide_eq_false goesOn]; rfl
  rw [post_flat, interruptCheck_masked ((timingTick_ime _).trans masked)]
  exact ⟨(timingTick_ime _).trans masked, timingTick_regs _⟩

/-- R364, R410: the step of `EI` starts the slot, which its own post-instruction step counts to 1; with IME clear nothing is
entered. -/
theorem step_ei {s u : State} (running : s.mode = .running) (ime : s.ime = false) (ei : (fetch s).1 = .ei)
    (h : step s = .next u) :
    u.ime = false ∧ u.eiDelay = 1 ∧ u.mode = .running ∧ u.regs = { s.regs with pc := s.regs.pc + 1 } := by
  have fetched := calm_fetch s
  have regs := fetch_regs s
  obtain ⟨t, answer, effect, next⟩ := step_running running
  rw [ei] at answer effect regs
  have started : { (fetch s).2 with eiDelay := 2 } = t := Host.Outcome.next.inj answer
  have delay : t.eiDelay = 2 := by rw [← started]
  have kept : t.regs = (fetch s).2.regs := by rw [← started]
  have mode : t.mode = .running := (effect.mode (by decide)).trans (fetched.mode.trans running)
  have clear : t.ime = false := (effect.ime (by decide) (by decide)).trans (fetched.ime.trans ime)
  obtain ⟨masked, same⟩ := post_masked clear (by rw [delay]; decide)
  obtain rfl := Host.Outcome.next.inj (next.symm.trans h)
  rw [complete_running mode]
  exact ⟨masked, by rw [post_eiDelay, delay], (post_mode t).trans mode, (same.trans kept).trans regs⟩

/-- R412: a post-instruction step in which the slot ends sets IME, and leaves it set unless it enters an interrupt. -/
theorem post_slotEnds {s : State} (last : s.eiDelay = 1) :
    (post s).ime = true ∨ ∃ i, i < 5 ∧ (post s).ime = false ∧ (post s).regs.pc = vector i := by
  have set : (s.ime || decide (s.eiDelay = 1)) = true := by rw [last]; exact Bool.or_true _
  rw [post_flat]
  rcases interruptCheck_cases (timingTick
    { s with eiDelay := s.eiDelay - 1, ime := s.ime || decide (s.eiDelay = 1), clock := s.clock + 1 }) with
    unchanged | ⟨-, i, source, entered⟩
  · rw [unchanged]; exact .inl ((timingTick_ime _).trans set)
  · rw [entered, interruptEntry_regs]
    exact .inr ⟨i, (leastSource_eq_some.1 source).1, interruptEntry_ime _ i, rfl⟩

/-- Settles O16: the step of `EI` leaves 1 in the slot, no instruction but those four writes it or stops its count, and the next
post-instruction step ends it. -/
theorem eiLatency : Obligations.EiLatency := by
  refine ⟨fun s u running ime ei h => step_ei running ime ei h, ?_⟩
  intro s u v running ime ei first notEi notDi notReti notHalt second
  obtain ⟨-, delay, running', -⟩ := step_ei running ime ei first
  have fetched := calm_fetch u
  obtain ⟨t, -, effect, next⟩ := step_running running'
  obtain rfl := Host.Outcome.next.inj (next.symm.trans second)
  have last : t.eiDelay = 1 := (effect.eiDelay notEi notDi).trans (fetched.eiDelay.trans delay)
  rw [complete_running ((effect.mode notHalt).trans (fetched.mode.trans running'))]
  exact ⟨by rw [post_eiDelay, last], post_slotEnds last⟩

end Sys2Proof.Machine
end

section
/-! The Timing Driver (61_timing_driver.md R430 to R443): what each part of a tick leaves in the cells DIV, TIMA, IF and LY, and the
frame of a tick. -/

namespace Sys2Proof.Machine

/-! Scanline notifications. -/

/-- R441: the events of a burst of notifications, oldest first. -/
theorem notifyLines_eq (n l : Nat) (s : State) :
    notifyLines n l s = { s with out := ((List.range' l n).map Event.scanline).reverse ++ s.out } := by
  induction n generalizing l s with
  | zero => rfl
  | succ n ih =>
    rw [notifyLines, ih, List.range'_succ, List.map_cons, List.reverse_cons, List.append_assoc]
    rfl

/-- Settles O37: the burst is the 26 lines from 144 on, a visible line is one report. -/
theorem scanlineNotifications : Obligations.ScanlineNotifications := by
  intro s ly
  have burst : notifyLines 26 144 s =
      { s with out := ((List.range 26).map fun k => Event.scanline (144 + k)).reverse ++ s.out } := by
    rw [notifyLines_eq, List.range'_eq_map_range, List.map_map]
    rfl
  rw [← burst]
  rfl

/-- Notifications change no byte of memory. -/
theorem readCell_lineNotifications (s : State) (r : Region) (k : Nat) :
    readCell (lineNotifications s) r k = readCell s r k := by
  have memory : (lineNotifications s).mem = s.mem := by
    unfold lineNotifications; dsimp only; split
    · exact notifyLines_mem 26 144 s
    · split <;> rfl
  exact readCell_congr memory (busStep_lineNotifications s).resets r k

/-- R443: the HDMA service changes no byte of the memories but Video RAM and the I/O file. -/
theorem readCell_hdmaService (s : State) {r : Region} (k : Nat) (io : r ≠ .io) (vram : r ≠ .vram) :
    readCell (hdmaService s) r k = readCell s r k := by
  have block : readCell (hdmaBlock s) r k = readCell s r k := readCell_hdmaBlock s vram fun g => io g.1
  have store : ∀ (u : State) (v : Byte), readCell (writeIo u 0x55 v) r k = readCell u r k :=
    fun u v => (readCell_writeCell u .io r 0x55 k v).trans (if_neg fun g => io g.1)
  unfold hdmaService
  generalize hdmaBlock s = u at block ⊢
  dsimp only
  split
  · split
    · exact (store _ _).trans block
    · exact (store _ _).trans block
  · rfl

/-! The cells of the counters. -/

/-- R431, R433, R437, R439: the cells that a tick counts in: DIV, TIMA, IF and LY. -/
def counterCell (k : Nat) : Prop := k = 0x04 ∨ k = 0x05 ∨ k = 0x0F ∨ k = 0x44

/-- Nothing but those four cells differs. -/
def onlyCounters (s t : State) : Prop :=
  t = { s with mem := t.mem } ∧ ∀ r k, ¬ (r = .io ∧ counterCell k) → readCell t r k = readCell s r k

theorem onlyCounters_refl (s : State) : onlyCounters s s := ⟨rfl, fun _ _ _ => rfl⟩

theorem onlyCounters_trans {s t u : State} (h : onlyCounters s t) (g : onlyCounters t u) : onlyCounters s u :=
  ⟨by rw [g.1, h.1], fun r k out => (g.2 r k out).trans (h.2 r k out)⟩

theorem onlyCounters_writeIo (s : State) {o : Nat} (v : Byte) (h : counterCell o) : onlyCounters s (writeIo s o v) :=
  ⟨rfl, fun r k out => (readCell_writeCell s .io r o k v).trans (if_neg (by rintro ⟨rfl, rfl⟩; exact out ⟨rfl, h⟩))⟩

section
variable {s t : State} (h : onlyCounters s t)
include h

theorem readIo_onlyCounters {o : Nat} (out : ¬ counterCell o) : readIo t o = readIo s o := h.2 .io o fun g => out g.2

theorem clock_onlyCounters : t.clock = s.clock := (congrArg State.clock h.1 :)

theorem hLine_onlyCounters : hLine t = hLine s := by rw [h.1]; rfl

end

theorem onlyCounters_divTick (s : State) : onlyCounters s (divTick s) := by
  unfold divTick; split
  exacts [onlyCounters_writeIo s _ (.inl rfl), onlyCounters_refl s]

theorem onlyCounters_requestInterrupt (s : State) (bits : Byte) : onlyCounters s (requestInterrupt s bits) :=
  onlyCounters_writeIo s _ (.inr (.inr (.inl rfl)))

theorem onlyCounters_timaTick (s : State) : onlyCounters s (timaTick s) := by
  have tima : ∀ v, onlyCounters s (writeIo s 0x05 v) := fun v => onlyCounters_writeIo s v (.inr (.inl rfl))
  unfold timaTick timaOverflow
  dsimp only
  split
  · split
    · split
      exacts [onlyCounters_trans (tima _) (onlyCounters_requestInterrupt _ _), tima _]
    · exact tima _
  · exact onlyCounters_refl s

theorem onlyCounters_lyAdvance (s : State) : onlyCounters s (lyAdvance s) :=
  onlyCounters_writeIo s _ (.inr (.inr (.inr rfl)))

theorem onlyCounters_lineRequests (s : State) : onlyCounters s (lineRequests s) := by
  have vblank := onlyCounters_requestInterrupt s 0x01
  unfold lineRequests
  dsimp only
  split
  · split
    exacts [onlyCounters_trans vblank (onlyCounters_requestInterrupt _ _), vblank]
  · exact onlyCounters_refl s

/-! What each part leaves in them. -/

theorem readIo_divTick (s : State) (o : Nat) :
    readIo (divTick s) o = if o = 0x04 ∧ s.clock % nDiv s = 0 then readIo s 0x04 + 1 else readIo s o := by
  unfold divTick
  by_cases acts : s.clock % nDiv s = 0 <;> simp [acts, readIo_writeIo]

/-- R433: TIMA counts on this tick. -/
def timaCounts (s : State) : Bool :=
  bitOf (readIo s 0x07) 2 && decide (s.clock % mTima ((readIo s 0x07).toNat % 4) = 0)

theorem timaTick_eq (s : State) :
    timaTick s =
      if timaCounts s then
        if readIo s 0x05 = 0xFF then timaOverflow s else writeIo s 0x05 (readIo s 0x05 + 1)
      else s := by
  simp [timaTick, timaCounts]

/-- R434: an overflow reloads TIMA from TMA. -/
theorem readIo_timaOverflow_tima (s : State) : readIo (timaOverflow s) 0x05 = readIo s 0x06 := by
  unfold timaOverflow; dsimp only; split
  · exact (readIo_writeIo _ 0x0F 0x05 _).trans (readIo_writeIo_same _ _ _)
  · exact readIo_writeIo_same _ _ _

/-- R434, D20: it requests the Timer interrupt only if IE bit 2 is set. -/
theorem readIo_timaOverflow_if (s : State) :
    readIo (timaOverflow s) 0x0F = readIo s 0x0F ||| (if bitOf (readIo s 0xFF) 2 = true then 0x04 else 0x00) := by
  simp only [timaOverflow, requestInterrupt, readIo_writeIo, Nat.reduceEqDiff, if_false]
  split
  · exact readIo_writeIo_same _ _ _
  · exact (readIo_writeIo _ _ _ _).trans BitVec.or_zero.symm

/-- R433, R434: TIMA after the tick. -/
theorem readIo_timaTick_tima (s : State) :
    readIo (timaTick s) 0x05 =
      if timaCounts s then (if readIo s 0x05 = 0xFF then readIo s 0x06 else readIo s 0x05 + 1) else readIo s 0x05 := by
  rw [timaTick_eq]
  split
  · split
    exacts [readIo_timaOverflow_tima s, readIo_writeIo_same _ _ _]
  · rfl

/-- R434: IF after it. -/
theorem readIo_timaTick_if (s : State) :
    readIo (timaTick s) 0x0F =
      readIo s 0x0F |||
        (if timaCounts s = true ∧ readIo s 0x05 = 0xFF ∧ bitOf (readIo s 0xFF) 2 = true then 0x04 else 0x00) := by
  rw [timaTick_eq]
  split
  case isTrue counts =>
    split
    case isTrue full => simp only [readIo_timaOverflow_if, counts, full, true_and]
    case isFalse notFull =>
      rw [if_neg fun g => notFull g.2.1]
      exact (readIo_writeIo s 0x05 0x0F _).trans BitVec.or_zero.symm
  case isFalse stands =>
    rw [if_neg fun g => stands g.1]
    exact BitVec.or_zero.symm

/-- R433, R434: no other cell is written. -/
theorem readIo_timaTick_other (s : State) {o : Nat} (tima : o ≠ 0x05) (request : o ≠ 0x0F) :
    readIo (timaTick s) o = readIo s o := by
  unfold timaTick timaOverflow requestInterrupt
  dsimp only
  repeat' split
  all_goals simp only [readIo_writeIo, tima, request, if_false]

/-- R437: the line after `l`. -/
def nextLine (l : Byte) : Byte := if 153 ≤ l.toNat then 0 else l + 1

theorem lyAdvance_eq (s : State) : lyAdvance s = writeIo s 0x44 (nextLine (readIo s 0x44)) := rfl

/-- R439: IF after the requests of a line. -/
theorem readIo_lineRequests_if (s : State) :
    readIo (lineRequests s) 0x0F =
      readIo s 0x0F ||| (if readIo s 0x44 = 144 then 0x01 else 0x00) |||
        (if readIo s 0x44 = 144 ∧ bitOf (readIo s 0x41) 4 = true then 0x02 else 0x00) := by
  have first : (readIo s 0x44).toNat = 144 ↔ readIo s 0x44 = 144 := BitVec.toNat_inj (y := 144)
  have vblank : readIo (requestInterrupt s 0x01) 0x0F = readIo s 0x0F ||| 0x01 := readIo_writeIo_same _ _ _
  have enable : readIo (requestInterrupt s 0x01) 0x41 = readIo s 0x41 := readIo_writeIo _ _ _ _
  unfold lineRequests
  dsimp only
  rw [enable]
  split
  case isTrue line =>
    simp only [first.1 line, if_true, true_and]
    split
    · exact (readIo_writeIo_same _ _ _).trans (by rw [vblank])
    · exact vblank.trans BitVec.or_zero.symm
  case isFalse line =>
    rw [first] at line
    rw [if_neg line, if_neg fun g => line g.1]
    simp

theorem readIo_lineRequests_other (s : State) {o : Nat} (request : o ≠ 0x0F) : readIo (lineRequests s) o = readIo s o := by
  unfold lineRequests requestInterrupt
  dsimp only
  repeat' split
  all_goals simp only [readIo_writeIo, request, if_false]

/-! The tick. -/

/-- R430, R436: a tick up to the notifications: the timers, and at a scanline LY and its requests. -/
def counterTick (s : State) : State :=
  if s.clock % hLine s = 0 then lineRequests (lyAdvance (timaTick (divTick s))) else timaTick (divTick s)

theorem onlyCounters_timers (s : State) : onlyCounters s (timaTick (divTick s)) :=
  onlyCounters_trans (onlyCounters_divTick s) (onlyCounters_timaTick _)

theorem onlyCounters_counterTick (s : State) : onlyCounters s (counterTick s) := by
  have timers := onlyCounters_timers s
  unfold counterTick; split
  exacts [onlyCounters_trans (onlyCounters_trans timers (onlyCounters_lyAdvance _)) (onlyCounters_lineRequests _), timers]

/-- R436, R441, R443: at a scanline the notifications and the HDMA service follow. -/
theorem timingTick_eq (s : State) :
    timingTick s = if s.clock % hLine s = 0 then hdmaService (lineNotifications (counterTick s)) else counterTick s := by
  have timers := onlyCounters_timers s
  unfold timingTick scanlineTick counterTick
  rw [clock_onlyCounters timers, hLine_onlyCounters timers]
  by_cases acts : s.clock % hLine s = 0
  · simp only [acts, if_true]; rfl
  · simp only [acts, if_false]

/-- A tick leaves in the I/O cells other than HDMA's what it leaves there before the notifications. -/
theorem readIo_timingTick (s : State) {o : Nat} (h : o < 0x51 ∨ 0x55 < o) : readIo (timingTick s) o = readIo (counterTick s) o := by
  rw [timingTick_eq]; split
  · exact (readIo_hdmaService _ o h).trans (readCell_lineNotifications _ .io o)
  · rfl

theorem readCell_timingTick (s : State) {r : Region} (k : Nat) (io : r ≠ .io) (vram : r ≠ .vram) :
    readCell (timingTick s) r k = readCell s r k := by
  have counted := (onlyCounters_counterTick s).2 r k fun g => io g.1
  rw [timingTick_eq]; split
  · exact ((readCell_hdmaService _ k io vram).trans (readCell_lineNotifications _ r k)).trans counted
  · exact counted

/-! What a tick leaves in the four cells. -/

section
variable (s : State)

/-- R431. -/
theorem readIo_counterTick_div :
    readIo (counterTick s) 0x04 = if s.clock % nDiv s = 0 then readIo s 0x04 + 1 else readIo s 0x04 := by
  have timers : readIo (timaTick (divTick s)) 0x04 = if s.clock % nDiv s = 0 then readIo s 0x04 + 1 else readIo s 0x04 := by
    rw [readIo_timaTick_other _ (by decide) (by decide), readIo_divTick]
    simp only [true_and]
  unfold counterTick; split
  · rw [readIo_lineRequests_other _ (by decide), lyAdvance_eq, readIo_writeIo, if_neg (by decide), timers]
  · exact timers

/-- R431, R433: DIV is none of the cells that TIMA depends on. -/
theorem readIo_divTick_other {o : Nat} (h : o ≠ 0x04) : readIo (divTick s) o = readIo s o := by
  rw [readIo_divTick, if_neg fun g => h g.1]

theorem timaCounts_divTick : timaCounts (divTick s) = timaCounts s := by
  unfold timaCounts
  rw [readIo_divTick_other s (by decide), clock_onlyCounters (onlyCounters_divTick s)]

/-- R433, R434. -/
theorem readIo_counterTick_tima :
    readIo (counterTick s) 0x05 =
      if timaCounts s then (if readIo s 0x05 = 0xFF then readIo s 0x06 else readIo s 0x05 + 1) else readIo s 0x05 := by
  have timers := readIo_timaTick_tima (divTick s)
  rw [timaCounts_divTick, readIo_divTick_other s (by decide), readIo_divTick_other s (by decide)] at timers
  unfold counterTick; split
  · rw [readIo_lineRequests_other _ (by decide), lyAdvance_eq, readIo_writeIo, if_neg (by decide), timers]
  · exact timers

/-- R433, R437: the timers leave LY, and STAT. -/
theorem readIo_timers {o : Nat} (h : ¬ counterCell o ∨ o = 0x44) : readIo (timaTick (divTick s)) o = readIo s o := by
  rcases h with out | rfl
  · exact readIo_onlyCounters (onlyCounters_timers s) out
  · exact (readIo_timaTick_other _ (by decide) (by decide)).trans (readIo_divTick_other s (by decide))

/-- R437. -/
theorem readIo_counterTick_ly :
    readIo (counterTick s) 0x44 = if s.clock % hLine s = 0 then nextLine (readIo s 0x44) else readIo s 0x44 := by
  unfold counterTick; split
  · rw [readIo_lineRequests_other _ (by decide), lyAdvance_eq, readIo_writeIo_same, readIo_timers s (.inr rfl)]
  · exact readIo_timers s (.inr rfl)

/-- R434, R439: an overflow of TIMA, and a LY that becomes 144, make requests. -/
theorem readIo_counterTick_if :
    readIo (counterTick s) 0x0F =
      readIo s 0x0F |||
        (if timaCounts s = true ∧ readIo s 0x05 = 0xFF ∧ bitOf (readIo s 0xFF) 2 = true then 0x04 else 0x00) |||
        (if s.clock % hLine s = 0 ∧ nextLine (readIo s 0x44) = 144 then 0x01 else 0x00) |||
        (if s.clock % hLine s = 0 ∧ nextLine (readIo s 0x44) = 144 ∧ bitOf (readIo s 0x41) 4 = true then 0x02 else 0x00) := by
  have timers := readIo_timaTick_if (divTick s)
  rw [timaCounts_divTick, readIo_divTick_other s (by decide), readIo_divTick_other s (by decide),
    readIo_divTick_other s (by decide)] at timers
  unfold counterTick
  by_cases acts : s.clock % hLine s = 0
  · have stat : readIo (timaTick (divTick s)) 0x41 = readIo s 0x41 := readIo_timers s (.inl (by unfold counterCell; decide))
    rw [if_pos acts, readIo_lineRequests_if, lyAdvance_eq]
    simp only [readIo_writeIo, Nat.reduceEqDiff, if_true, if_false, readIo_timers s (.inr rfl), timers, stat, acts, true_and]
  · simp only [acts, if_false, false_and, timers]
    exact BitVec.or_zero.symm.trans BitVec.or_zero.symm

end

/-- R107, R433: the periods of TIMA. -/
theorem mTima_mod_four (tac : Nat) :
    mTima (tac % 4) = if tac % 4 = 0 then 135 else if tac % 4 = 1 then 2 else if tac % 4 = 2 then 8 else 33 := by
  have : tac % 4 < 4 := Nat.mod_lt _ (by decide)
  interval_cases tac % 4 <;> rfl

theorem timaCounts_iff (s : State) :
    timaCounts s = true ↔ (readIo s 0x07).toNat / 4 % 2 = 1 ∧ s.clock %
      (if (readIo s 0x07).toNat % 4 = 0 then 135 else if (readIo s 0x07).toNat % 4 = 1 then 2
       else if (readIo s 0x07).toNat % 4 = 2 then 8 else 33) = 0 := by
  rw [timaCounts, bitOf_eq_decide, mTima_mod_four, Bool.and_eq_true, decide_eq_true_eq, decide_eq_true_eq]
  exact Iff.rfl

/-- Settles O35: the state before the notifications has the four cells as their parts leave them, and a tick goes on from it. -/
theorem tickRegisters : Obligations.TickRegisters := by
  intro s double nDiv' hLine' tac mTima' counts line timer vblank stat t
  have counted := onlyCounters_counterTick s
  have counting : timaCounts s = true ↔ counts := timaCounts_iff s
  refine ⟨counterTick s, counted.1, timingTick_eq s, readIo_counterTick_div s, ?tima, readIo_counterTick_ly s, ?request,
    counted.2, fun o h => readIo_timingTick s h, fun r k io vram => readCell_timingTick s k io vram⟩
  case tima => exact (readIo_counterTick_tima s).trans (if_congr counting rfl rfl)
  case request =>
    rw [readIo_counterTick_if]
    congr 3
    exact if_congr (and_congr_left' counting) rfl rfl

end Sys2Proof.Machine
end

section
/-! Time passing with no instruction (60_exceptions.md R411, 61_timing_driver.md R431, R437, R439): what `k` ticks count, and the
first request that ends a wait (70_reset_and_hazards.md R476). -/

namespace Sys2Proof.Machine

/-! Ticks. -/

theorem ticks_succ (k : Nat) (s : State) : ticks (k + 1) s = countAndTick (ticks k s) := by
  induction k generalizing s with
  | zero => rfl
  | succ k ih => exact ih (countAndTick s)

theorem ticks_clock (k : Nat) (s : State) : (ticks k s).clock = s.clock + k := by
  induction k with
  | zero => rfl
  | succ k ih => rw [ticks_succ, countAndTick_clock, ih, Nat.add_assoc]

theorem ticks_mode (k : Nat) (s : State) : (ticks k s).mode = s.mode := by
  induction k with
  | zero => rfl
  | succ k ih => rw [ticks_succ, countAndTick_mode, ih]

theorem isDouble_countAndTick (s : State) : (countAndTick s).isDouble = s.isDouble := by
  unfold State.isDouble countAndTick
  rw [timingTick_cart, timingTick_doubleSpeed]

/-- R39: ticks leave the speed, and so the periods. -/
theorem isDouble_ticks (k : Nat) (s : State) : (ticks k s).isDouble = s.isDouble := by
  induction k with
  | zero => rfl
  | succ k ih => rw [ticks_succ, isDouble_countAndTick, ih]

/-! Counters. -/

/-- A tick moves a quotient of `clock` on by 1 at the multiples of the period. -/
theorem div_passed_succ (c k p : Nat) :
    (c + (k + 1)) / p - c / p = (c + k) / p - c / p + if (c + k + 1) % p = 0 then 1 else 0 := by
  have passed : c / p ≤ (c + k) / p := Nat.div_le_div_right (Nat.le_add_right c k)
  have next : (c + k + 1) / p = (c + k) / p + if p ∣ c + k + 1 then 1 else 0 := Nat.succ_div
  simp only [Nat.dvd_iff_mod_eq_zero] at next
  rw [← Nat.add_assoc, next, Nat.sub_add_comm passed]

/-- What every tick moves on at the multiples of a period, `k` ticks move on as often as `clock` passes one. -/
theorem iterate_ticks {α : Type} (read : State → α) (next : α → α) (p : Nat) {s : State}
    (tick : ∀ u : State, u.isDouble = s.isDouble →
      read (countAndTick u) = if (u.clock + 1) % p = 0 then next (read u) else read u) (k : Nat) :
    read (ticks k s) = next^[(s.clock + k) / p - s.clock / p] (read s) := by
  induction k with
  | zero => rw [Nat.add_zero, Nat.sub_self]; rfl
  | succ k ih =>
    rw [ticks_succ, tick _ (isDouble_ticks k s), ticks_clock, div_passed_succ, ih]
    split
    · exact (Function.iterate_succ_apply' next _ _).symm
    · rfl

/-- R431. -/
theorem readIo_countAndTick_div (s : State) :
    readIo (countAndTick s) 0x04 = if (s.clock + 1) % nDiv s = 0 then readIo s 0x04 + 1 else readIo s 0x04 :=
  (readIo_timingTick _ (by decide)).trans (readIo_counterTick_div { s with clock := s.clock + 1 })

/-- R437. -/
theorem readIo_countAndTick_ly (s : State) :
    readIo (countAndTick s) 0x44 = if (s.clock + 1) % hLine s = 0 then nextLine (readIo s 0x44) else readIo s 0x44 :=
  (readIo_timingTick _ (by decide)).trans (readIo_counterTick_ly { s with clock := s.clock + 1 })

/-- R36, R437: LY after `k` ticks. -/
theorem readIo_ticks_ly (s : State) (k : Nat) :
    readIo (ticks k s) 0x44 = nextLine^[(s.clock + k) / hLine s - s.clock / hLine s] (readIo s 0x44) := by
  refine iterate_ticks (readIo · 0x44) nextLine (hLine s) (fun u same => ?_) k
  have period : hLine u = hLine s := by unfold hLine; rw [same]
  rw [← period]; exact readIo_countAndTick_ly u

/-- R431: DIV after `k` ticks. -/
theorem readIo_ticks_div (s : State) (k : Nat) :
    readIo (ticks k s) 0x04 = (· + 1)^[(s.clock + k) / nDiv s - s.clock / nDiv s] (readIo s 0x04) := by
  refine iterate_ticks (readIo · 0x04) (· + 1) (nDiv s) (fun u same => ?_) k
  have period : nDiv u = nDiv s := by unfold nDiv; rw [same]
  rw [← period]; exact readIo_countAndTick_div u

/-- A byte counts modulo 256. -/
theorem iterate_add_one_toNat (n : Nat) (b : Byte) : ((· + 1)^[n] b).toNat = (b.toNat + n) % 256 := by
  induction n with
  | zero => exact (Nat.mod_eq_of_lt b.isLt).symm
  | succ n ih => rw [Function.iterate_succ_apply', BitVec.toNat_add, ih]; simp; omega

/-- R437: the line after a line of the frame. -/
theorem nextLine_toNat (l : Byte) : (nextLine l).toNat = if 153 ≤ l.toNat then 0 else l.toNat + 1 := by
  unfold nextLine
  split
  · rfl
  · rw [BitVec.toNat_add]; simp; omega

/-- R437: the lines of a frame go round modulo 154. -/
theorem iterate_nextLine_toNat (n : Nat) {l : Byte} (h : l.toNat ≤ 153) : (nextLine^[n] l).toNat = (l.toNat + n) % 154 := by
  induction n with
  | zero => show l.toNat = (l.toNat + 0) % 154; omega
  | succ n ih => rw [Function.iterate_succ_apply', nextLine_toNat, ih]; split <;> omega

/-- Settles O36: DIV and LY move on at the multiples of their periods, by counting modulo 256 and modulo 154. -/
theorem countersOverTime : Obligations.CountersOverTime := by
  intro s k single line
  have periods : nDiv s = 33 ∧ hLine s = 60 := by unfold nDiv hLine; rw [single]; exact ⟨rfl, rfl⟩
  refine ⟨ticks_clock k s, ?_, ?_⟩
  · rw [readIo_ticks_div, iterate_add_one_toNat, periods.1]
  · rw [readIo_ticks_ly, iterate_nextLine_toNat _ line, periods.2]

/-! The wait. -/

theorem run_next {s t : State} (h : step s = .next t) (n : Nat) :
    Host.Core.run Sys2Proof.core (n + 1) s = Host.Core.run Sys2Proof.core n t := by
  have first : Sys2Proof.core.step s = .next t := h
  simp only [Host.Core.run, first]

/-- R361, R411: a halted machine ticks as long as no tick makes a request. -/
theorem run_waiting {s : State} (halted : s.mode = .halted) {n : Nat} (quiet : ∀ m < n, readIo (ticks m s) 0x0F = 0) :
    Host.Core.run Sys2Proof.core n s = .next (ticks n s) := by
  induction n generalizing s with
  | zero => rfl
  | succ n ih =>
    rw [run_next (step_wait halted (quiet 0 n.succ_pos))]
    exact ih ((countAndTick_mode s).trans halted) fun m below => quiet (m + 1) (Nat.succ_lt_succ below)

/-- R439: the tick in which LY becomes 144 leaves a request. -/
theorem readIo_timingTick_vblank {s : State} (acts : s.clock % hLine s = 0) (line : nextLine (readIo s 0x44) = 144) :
    readIo (timingTick s) 0x0F ≠ 0 := by
  rw [readIo_timingTick s (by decide), readIo_counterTick_if, if_pos (show _ ∧ _ from ⟨acts, line⟩)]
  simp [BitVec.or_eq_zero_iff]

/-- R437: from every line the next VBlank is at most 154 lines away. -/
theorem exists_line_to_vblank (l : Byte) : ∃ j < 154, nextLine (nextLine^[j] l) = 144 := by
  have line : (nextLine l).toNat ≤ 153 := by rw [nextLine_toNat]; split <;> omega
  refine ⟨(298 - (nextLine l).toNat) % 154, Nat.mod_lt _ (by decide), BitVec.eq_of_toNat_eq ?_⟩
  rw [← Function.iterate_succ_apply' nextLine, Function.iterate_succ_apply, iterate_nextLine_toNat _ line]
  show _ = 144
  omega

/-- Within `j + 1` periods a tick acts before which `clock` has passed `j` multiples of the period. -/
theorem exists_acting_tick (c j : Nat) {p : Nat} (hp : 0 < p) :
    ∃ m < (j + 1) * p, (c + m + 1) % p = 0 ∧ (c + m) / p - c / p = j := by
  have whole := Nat.div_add_mod c p
  have rest := Nat.mod_lt c hp
  have reached : c + (p * j + (p - 1 - c % p)) = p * (c / p + j) + (p - 1) := by rw [Nat.mul_add]; omega
  refine ⟨p * j + (p - 1 - c % p), ?_, ?_, ?_⟩
  · rw [Nat.mul_comm (j + 1), Nat.mul_succ]; omega
  · rw [reached, Nat.add_assoc, Nat.sub_add_cancel hp, ← Nat.mul_succ, Nat.mul_mod_right]
  · rw [reached, Nat.mul_add_div hp, Nat.div_eq_of_lt (Nat.sub_lt hp one_pos)]; omega

/-- R476: within 154 lines a tick makes a request, whatever LY holds. -/
theorem exists_request (s : State) : ∃ n ≤ 154 * hLine s, readIo (ticks n s) 0x0F ≠ 0 := by
  obtain ⟨j, bound, vblank⟩ := exists_line_to_vblank (readIo s 0x44)
  have period : 0 < hLine s := by unfold hLine; split <;> decide
  obtain ⟨m, within, acts, passed⟩ := exists_acting_tick s.clock j period
  have same : hLine (ticks m s) = hLine s := by unfold hLine; rw [isDouble_ticks]
  refine ⟨m + 1, within.trans_le (Nat.mul_le_mul_right _ bound), ?_⟩
  rw [ticks_succ]
  refine readIo_timingTick_vblank (s := { ticks m s with clock := (ticks m s).clock + 1 }) ?_ ?_
  · show ((ticks m s).clock + 1) % hLine (ticks m s) = 0
    rw [ticks_clock, same, acts]
  · show nextLine (readIo (ticks m s) 0x44) = 144
    rw [readIo_ticks_ly, passed, vblank]

/-- Settles O12: the machine waits up to the first tick that makes a request, and one does within a frame. -/
theorem haltWaitIsBounded : Obligations.HaltWaitIsBounded := by
  intro s halted
  have request := exists_request s
  have frame : 154 * hLine s = if s.isDouble then 18480 else 9240 := by unfold hLine; split <;> rfl
  rw [frame] at request
  obtain ⟨bound, requested⟩ := Nat.find_spec request
  refine ⟨Nat.find request, ticks (Nat.find request) s, bound, run_waiting halted fun m before => ?_,
    (ticks_mode _ s).trans halted, requested⟩
  by_contra earlier
  exact Nat.find_min request before ⟨before.le.trans bound, earlier⟩

end Sys2Proof.Machine
end
